-- ==== Sys2Proof/Word.lean ====
section
/-! DEFINITION. The widths the part's values have on its ports and on the control link. -/

namespace Sys2Proof

/-- A byte of the control link (R173). -/
abbrev Byte := BitVec 8

/-- A 24-bit two's complement sample (R2, and the conventions of 00_scope.md). -/
abbrev Sample := BitVec 24

end Sys2Proof
end

