-- ==== Sys2Proof/Syntax.lean ====
section
/-! DEFINITION. The commands of the part: one constructor for each row of spec/opcode_table.json. -/

namespace Sys2Proof

/-- The two readers (R1). -/
inductive ReaderId where
  | a | b
deriving DecidableEq, Repr

/-- The two lanes of a reader (R1). -/
inductive Lane where
  | lane0 | lane1
deriving DecidableEq, Repr

/-- One field write of a SETW: a field id and a 32-bit two's complement value (R139, R140). -/
structure FieldWrite where
  id : Byte
  value : BitVec 32
deriving DecidableEq, Repr

/-- The commands. A request row is the arrival of a good frame that carries that request with that tag (R178,
log entry 1); its byte operands are raw, so that an undefined value can be sent and is refused as its rule states. -/
inductive Instr where
  /-- POWER_ON (R22); the level of the RATE strap as it is sampled (R173) -/
  | powerOn (rate : Bool)
  /-- RESET, the end of an RSET reply (R185); the level of the RATE strap as it is sampled -/
  | reset (rate : Bool)
  /-- IDNT (R184) -/
  | idnt (tag : Byte)
  /-- STRT with option IMMEDIATE (R7) -/
  | strtImmediate (tag reader laneMode : Byte) (startFrame : BitVec 32)
  /-- STRT with option AT-FRAME (R7) -/
  | strtAtFrame (tag reader laneMode : Byte) (startFrame : BitVec 32)
  /-- STOP (R10) -/
  | stop (tag reader : Byte)
  /-- BYPS with setting ON (R11, R12) -/
  | bypsOn (tag reader : Byte)
  /-- BYPS with setting OFF (R11, R13) -/
  | bypsOff (tag reader : Byte)
  /-- SETW (R140, R141) -/
  | setw (tag reader : Byte) (writes : List FieldWrite)
  /-- SETR (R142) -/
  | setr (tag reader role : Byte)
  /-- SETC (R143) -/
  | setc (tag reader : Byte)
  /-- HOLD (R148) -/
  | hold (tag mask : Byte)
  /-- SYNC (R149) -/
  | sync (tag mask : Byte)
  /-- RELS (R148) -/
  | rels (tag mask : Byte)
  /-- SPLM (R92) -/
  | splm (tag reader : Byte) (picture : BitVec 32)
  /-- SPLC (R94) -/
  | splc (tag reader : Byte) (due : BitVec 32)
  /-- SPLL (R95) -/
  | spll (tag reader : Byte)
  /-- EXCA (R102) -/
  | exca (tag reader : Byte) (first last : BitVec 32)
  /-- EXCR (R103) -/
  | excr (tag reader : Byte) (first : BitVec 32)
  /-- EXCL (R103) -/
  | excl (tag reader : Byte)
  /-- CAPA (R164) -/
  | capa (tag reader kindMask : Byte) (minPeak : BitVec 16) (laneMask : Byte)
  /-- CAPR (R167) -/
  | capr (tag reader lane : Byte) (offset count : BitVec 16)
  /-- CAPX (R168) -/
  | capx (tag reader : Byte)
  /-- WTCH (R170) -/
  | wtch (tag reader : Byte) (mask : BitVec 16) (mode : Byte)
  /-- WTCD (R171) -/
  | wtcd (tag reader : Byte)
  /-- STAT (R172) -/
  | stat (tag reader : Byte)
  /-- HUMR (R122) -/
  | humr (tag reader : Byte)
  /-- REPT with setting ON (R162) -/
  | reptOn (tag : Byte)
  /-- REPT with setting OFF (R162) -/
  | reptOff (tag : Byte)
  /-- RSET (R185) -/
  | rset (tag : Byte)
  /-- ENTRY_EVENT (R2, R3): the samples of slots 0 and 1, and the lane whose judgement is taken first (R48, R55, R72) -/
  | entryEvent (r : ReaderId) (x0 x1 : Sample) (first : Lane)
  /-- REAL_PULSE (R23) -/
  | realPulse (r : ReaderId)
  /-- CLOCK_LOST (R19) -/
  | clockLost (r : ReaderId)
  /-- CLOCK_BACK (R19) -/
  | clockBack (r : ReaderId)
  /-- LANE_STUCK (R15) -/
  | laneStuck (r : ReaderId)
  /-- HOLDOVER_ENTRY (R32) -/
  | holdoverEntry (r : ReaderId)
  /-- VIRTUAL_TICK (R33, R35) -/
  | virtualTick (r : ReaderId)
  /-- FREE_ENTRY (R33) -/
  | freeEntry (r : ReaderId)
  /-- RUN_CLOSE (R50) -/
  | runClose (r : ReaderId) (l : Lane)
  /-- SATURATION_END (R53) -/
  | saturationEnd (r : ReaderId) (l : Lane)
  /-- POST_CONTEXT_COMPLETE (R69) -/
  | postContextComplete (r : ReaderId)
  /-- CUT_COMMIT_AT_B (R70) -/
  | cutCommitAtB (r : ReaderId)
  /-- WINDOW_DEADLINE (R71) -/
  | windowDeadline (r : ReaderId)
  /-- SPLICE_CLOSE (R100) -/
  | spliceClose (r : ReaderId)
  /-- ENTRY_REMOVAL (R67) -/
  | entryRemoval (r : ReaderId)
  /-- PERIOD_END (R118) -/
  | periodEnd (r : ReaderId)
  /-- HISS_BLOCK_COMPLETE (R130) -/
  | hissBlockComplete (r : ReaderId) (l : Lane)
  /-- RECEIVE_BYTE (R175): the byte, and whether its stop bit is missing -/
  | receiveByte (byte : Byte) (framingError : Bool)
  /-- INTER_BYTE_TIMEOUT (R177) -/
  | interByteTimeout
  /-- PENDING_REQUEST_TAKEN (R178) -/
  | pendingRequestTaken
  /-- CTS_ASSERTED (R160): the level the CTS pin takes, true being asserted (log entry 6) -/
  | ctsAsserted (level : Bool)
  /-- MESSAGE_SENT (R161) -/
  | messageSent
deriving DecidableEq, Repr

end Sys2Proof
end

