-- ==== Sys2Proof/Decode.lean ====
section
/-! DEFINITION. The decoder over the bits of spec/opcode_table.json. -/

namespace Sys2Proof

/-- No row of spec/opcode_table.json gives bits (every row's "fields" is empty and none has "fixed"), so no word
spells a command (log entry 29). The frames that spell requests on the link are decoded in Machine/Operands.lean. -/
def decodeTableWord (_nbits _w : Nat) : Option Instr := none

end Sys2Proof
end

