-- ==== Sys2Proof/Config.lean ====
section
/-! DEFINITION. The part's fixed capacities, and the one value the spec leaves free. -/

namespace Sys2Proof.Config

/-- Positions of a window (R3). -/
@[simp, reducible] def windowLength : Nat := 1024
/-- Entries of a defect table (R63). -/
@[simp, reducible] def tableCapacity : Nat := 32
/-- Entries of a splice schedule (R91). -/
@[simp, reducible] def scheduleCapacity : Nat := 16
/-- Ranges of an exclusion list (R101). -/
@[simp, reducible] def exclusionCapacity : Nat := 8
/-- Records of the report queue (R156). -/
@[simp, reducible] def queueCapacity : Nat := 64
/-- Places of the report queue that DFCT records may take (R157). -/
@[simp, reducible] def dfctLimit : Nat := 56
/-- Records from which the queue is under pressure (R161). -/
@[simp, reducible] def pressureLevel : Nat := 48
/-- Samples a capture slot holds on each lane (R163). -/
@[simp, reducible] def captureSamples : Nat := 320
/-- Samples a capture takes before and after the span (R166). -/
@[simp, reducible] def captureMargin : Nat := 32
/-- Greatest magnitude of a hum weight (R114). -/
@[simp, reducible] def weightLimit : Int := 8388607

/-- FREE VALUE (log entry 5): whether reader A's ALRT joins the queue before reader B's when one event satisfies
both watches. R156 lets the two offers be taken in either order. The argument counts the occasions. -/
opaque watchOrder : Nat → Bool

end Sys2Proof.Config
end

