-- ==== Sys2Proof/Machine/State.lean ====
section
/-! DEFINITION. The state of the part: plain data, every piece of it that the spec names, and its reset values. -/

namespace Sys2Proof.Machine

/-! ## The reader core -/

/-- The reader states (R6). -/
inductive ReaderState where
  | stopped | armed | running | bypassed
deriving DecidableEq, Repr

/-- The lane modes (R14). -/
inductive LaneMode where
  | twin | stereo
deriving DecidableEq, Repr

/-- One window position: a sample and its stuck mark (R3). -/
structure Cell where
  sample : Sample
  mark : Bool
deriving DecidableEq, Repr

/-! ## The frame monitor (R25) -/

inductive MonitorState where
  | absent | tracking | holdover | free
deriving DecidableEq, Repr

/-- The reference: the timestamp of the last real pulse with its standing (R26). -/
inductive Reference where
  | none
  | void (timestamp : Nat)
  | valid (timestamp : Nat)
deriving DecidableEq, Repr

structure Monitor where
  state : MonitorState
  /-- S, in sixteenths of a sample period -/
  smoothed : Nat
  frameCount : Nat
  reference : Reference
  /-- rejected intervals, oldest first, at most two -/
  rejected : List Nat
  lastEvent : Nat
  holdoverTicks : Nat
  glitches : Nat
deriving DecidableEq, Repr

/-! ## The click detector (R40) -/

inductive RunState where
  | idle | run | catchup | saturated
deriving DecidableEq, Repr

/-- The run record, but for its span start and peak ratio, which stand in its defect entry. -/
structure RunRecord where
  firstHot : Nat
  lastHot : Nat
deriving DecidableEq, Repr

structure Detector where
  /-- the more recent previous sample -/
  prev1 : Sample
  /-- the older previous sample -/
  prev2 : Sample
  history : Nat
  envelope : Nat
  run : RunState
  record : Option RunRecord
  quiet : Nat
deriving DecidableEq, Repr

/-! ## The defect table (R64) -/

inductive LaneMask where
  | only (l : Lane)
  | both
deriving DecidableEq, Repr

inductive Kind where
  | click | splice
deriving DecidableEq, Repr

inductive EntryState where
  | opened | closed | committed
deriving DecidableEq, Repr

/-- Methods and outcomes (R74). MISSED belongs to records only (R90), UNRECORDED to entries only (R79). -/
inductive Method where
  | fill | linear | twin | passed | vetoed | bypassed | missed | unrecorded
deriving DecidableEq, Repr

structure Defect where
  lanes : LaneMask
  kind : Kind
  spanStart : Nat
  spanEnd : Nat
  peak : Nat
  state : EntryState
  cut : Bool
  method : Option Method
  number : Option Nat
  captured : Bool
deriving DecidableEq, Repr

/-! ## The splice schedule and the exclusion list -/

structure SpliceEntry where
  picture : Nat
  due : Nat
deriving DecidableEq, Repr

structure FrameRange where
  first : Nat
  last : Nat
deriving DecidableEq, Repr

/-! ## The hum canceller -/

inductive HumSource where
  | frame | mains | fixed
deriving DecidableEq, Repr

inductive HumStatus where
  | off | outOfBand | seeking | locked | parked
deriving DecidableEq, Repr

/-- Phase and increment of a slot, shared by both lanes (R106). -/
structure HumSlot where
  theta : BitVec 32
  delta : BitVec 32
deriving DecidableEq, Repr

/-- A slot's state on one lane (R107). -/
structure HumLaneSlot where
  wc : Int
  ws : Int
  status : HumStatus
  faultRun : Nat
  fresh : Bool
  fault : Bool
  aPrev : Nat
deriving DecidableEq, Repr

structure Hum where
  slots : Vector HumSlot 12
  periodCounter : Nat
  humFault : Bool
deriving DecidableEq, Repr

/-! ## The hiss filter (R127) -/

structure Hiss where
  step : Nat
  y : Sample
  prev : Sample
  blockSum : Nat
  blockCount : Nat
deriving DecidableEq, Repr

/-! ## The parameter sets (R137, R138) -/

/-- The five fields of one hum slot. -/
structure HumConfig where
  enabled : Bool
  source : HumSource
  order : Nat
  fixedInc : Nat
  shift : Nat
deriving DecidableEq, Repr

/-- The 83 fields of a parameter set: ids 1 to 23 in order, then the twelve slot records. -/
structure ParamSet where
  detectorEnable : Bool
  threshold : Nat
  envelopeRate : Nat
  mergeGap : Nat
  guard : Nat
  lmax : Nat
  linearLimit : Nat
  stuckCount : Nat
  splicePre : Nat
  splicePost : Nat
  spliceOffset : Int
  pmin : Nat
  pmax : Nat
  pn : Nat
  holdover : Nat
  monitorPeriod : Nat
  mains : Nat
  nominalRate : Nat
  hissEnable : Bool
  floor : Nat
  margin : Nat
  minStep : Nat
  upRate : Nat
  hum : Vector HumConfig 12
deriving DecidableEq, Repr

inductive Role where
  | active | edit | staged | spare
deriving DecidableEq, Repr

inductive SlotId where
  | slot0 | slot1 | slot2
deriving DecidableEq, Repr

structure ParamSlot where
  role : Role
  set : ParamSet
deriving DecidableEq, Repr

structure Params where
  slot0 : ParamSlot
  slot1 : ParamSlot
  slot2 : ParamSlot
  hold : Bool
  syncPending : Bool
deriving DecidableEq, Repr

/-! ## The capture slot and the alert watch (R163, R169) -/

inductive CaptureState where
  | disarmed | armed | held
deriving DecidableEq, Repr

structure Qualifier where
  clicks : Bool
  splices : Bool
  minPeak : Nat
  lane0 : Bool
  lane1 : Bool
deriving DecidableEq, Repr

/-- The capture descriptor. The lanes captured are the code of R181: 1, 2 or 3, and 0 before any capture. -/
structure Descriptor where
  number : Nat
  kind : Kind
  lanes : Nat
  first : Nat
  count : Nat
deriving DecidableEq, Repr

structure Capture where
  state : CaptureState
  qualifier : Qualifier
  toggle : Bool
  missed : Bool
  descriptor : Descriptor
  copy0 : List Sample
  copy1 : List Sample
deriving DecidableEq, Repr

inductive WatchMode where
  | any | all
deriving DecidableEq, Repr

structure Watch where
  armed : Bool
  mask : BitVec 16
  mode : WatchMode
deriving DecidableEq, Repr

/-! ## A lane and a reader -/

structure LaneState where
  /-- positions 0 to 1023, position 0 first -/
  window : List Cell
  lastEntered : Sample
  /-- the sample that entered before the last one (R13, log entry 11) -/
  beforeLast : Sample
  equalRun : Nat
  stuck : Bool
  detector : Detector
  hum : Vector HumLaneSlot 12
  adapted : Bool
  hiss : Hiss
deriving DecidableEq, Repr

structure Reader where
  state : ReaderState
  laneMode : LaneMode
  pendingStart : Nat
  /-- samples entered since the start point; the sample index is this count modulo 2^48 (R5) -/
  entered : Nat
  clockLost : Bool
  /-- the two output slots of the last period; none when the port sends nothing -/
  output : Option (Sample × Sample)
  lane0 : LaneState
  lane1 : LaneState
  monitor : Monitor
  table : List Defect
  unrecorded : Nat
  gap : Bool
  nextNumber : Nat
  committedTotal : Nat
  schedule : List SpliceEntry
  exclusions : List FrameRange
  hum : Hum
  params : Params
  capture : Capture
  watch : Watch
  /-- the MODEL's own: an apply has taken place since the last entry event (log entry 2) -/
  appliedSince : Bool
deriving DecidableEq, Repr

/-! ## The report queue (R156) -/

inductive FrmsCause where
  | enterTrack | reseed | holdover | free
deriving DecidableEq, Repr

inductive HumsCause where
  | period | band | apply
deriving DecidableEq, Repr

inductive ApldCause where
  | pulse | tick | start
deriving DecidableEq, Repr

inductive LaneCause where
  | stuck | unstuck | clockLost | clockBack
deriving DecidableEq, Repr

/-- One item of a HUMS report (R121). -/
structure HumItem where
  slot : Nat
  lane : Lane
  status : HumStatus
deriving DecidableEq, Repr

/-- The fields of a DFCT record (R89). -/
structure DfctFields where
  lanes : LaneMask
  kind : Kind
  method : Method
  number : Nat
  spanStart : Nat
  length : Nat
  peak : Nat
  frameCount : Nat
  gapBefore : Bool
  captured : Bool
deriving DecidableEq, Repr

/-- A report record's fields, but for its reader and its report-lost field (section 10.6). -/
inductive ReportBody where
  | dfct (f : DfctFields)
  | frms (state : MonitorState) (cause : FrmsCause) (smoothed frameCount index : Nat)
  | apld (cause : ApldCause) (released : Bool) (slot : SlotId) (frameCount index : Nat)
  | hums (cause : HumsCause) (frameCount index : Nat) (items : List HumItem)
  | lane (cause : LaneCause) (lane0 lane1 : Bool) (stuck0 stuck1 lost : Bool) (frameCount index : Nat)
  | capd (number : Nat) (toggle : Bool) (lanes first count : Nat)
  | alrt (conditions mask : BitVec 16) (mode : WatchMode) (frameCount index : Nat)
deriving DecidableEq, Repr

structure Record where
  reader : ReaderId
  /-- the report-lost field, set when transmission begins (R159) -/
  lost : Bool
  body : ReportBody
deriving DecidableEq, Repr

structure ReportQueue where
  /-- oldest first -/
  records : List Record
  /-- a DFCT place granted to a commit and not yet filled (R157) -/
  placeHeld : Bool
  lost : Bool
  enabled : Bool
deriving DecidableEq, Repr

/-! ## The control link -/

/-- A good frame (R174). -/
structure Frame where
  type : Byte
  tag : Byte
  payload : List Byte
deriving DecidableEq, Repr

inductive RxState where
  | hunt | length | body | check
deriving DecidableEq, Repr

structure Receiver where
  state : RxState
  /-- the bytes received after the sync of the frame in progress, oldest first -/
  kept : List Byte
deriving DecidableEq, Repr

/-- A reply outstanding: formed, and ready or being sent (R178, R180). -/
structure Reply where
  type : Byte
  tag : Byte
  payload : List Byte
  isRset : Bool
deriving DecidableEq, Repr

/-- What the transmitter is sending, with the bytes of the frame (R160, R174). -/
inductive Transmitter where
  | idle
  | reply (bytes : List Byte)
  | report (bytes : List Byte)
deriving DecidableEq, Repr

structure Link where
  receiver : Receiver
  pendingRequest : Option Frame
  reply : Option Reply
  linkFault : Bool
  transmitter : Transmitter
  /-- the rate in force: false 1 Mbit/s, true 3 Mbit/s (R173) -/
  rate : Bool
deriving DecidableEq, Repr

/-! ## The part -/

structure State where
  readerA : Reader
  readerB : Reader
  queue : ReportQueue
  link : Link
  /-- the level of the CTS pin, true being asserted -/
  cts : Bool
  /-- the level of the RATE strap pin -/
  ratePin : Bool
  /-- the MODEL's own: how often Config.watchOrder has been asked (log entry 5) -/
  freeTick : Nat
  /-- the MODEL's own: the commands that wait, first in first out -/
  pending : List Instr
deriving DecidableEq, Repr

/-- The part has no fault that stops it: nothing raises one (INVENTORY.md, Faults). -/
inductive Fault where
deriving DecidableEq, Repr

/-- Why a command has no meaning. -/
inductive Refusal where
  /-- a command of the table not modelled yet, raised by exec's arm alone; safe, since the machine stops; no arm uses it -/
  | notModelled (mnemonic : String)
deriving DecidableEq, Repr

/-! ## Reset values -/

def Monitor.reset : Monitor :=
  { state := .absent, smoothed := 32000, frameCount := 0, reference := .none, rejected := [], lastEvent := 0,
    holdoverTicks := 0, glitches := 0 }

def Detector.reset : Detector :=
  { prev1 := 0, prev2 := 0, history := 0, envelope := 16, run := .idle, record := none, quiet := 0 }

def Hiss.reset : Hiss :=
  { step := 31, y := 0, prev := 0, blockSum := 0, blockCount := 0 }

def HumConfig.default : HumConfig :=
  { enabled := false, source := .frame, order := 1, fixedInc := 1, shift := 14 }

/-- The default of every field (R138). -/
def ParamSet.default : ParamSet :=
  { detectorEnable := true, threshold := 128, envelopeRate := 6, mergeGap := 8, guard := 4, lmax := 128,
    linearLimit := 8, stuckCount := 4096, splicePre := 32, splicePost := 96, spliceOffset := 0, pmin := 100,
    pmax := 20000, pn := 32000, holdover := 48, monitorPeriod := 16, mains := 50, nominalRate := 2400,
    hissEnable := false, floor := 64, margin := 24, minStep := 8, upRate := 4,
    hum := Vector.replicate 12 HumConfig.default }

/-- Slot 0 ACTIVE, slot 1 EDIT, slot 2 SPARE, all defaults (R137). -/
def Params.reset : Params :=
  { slot0 := { role := .active, set := ParamSet.default }, slot1 := { role := .edit, set := ParamSet.default },
    slot2 := { role := .spare, set := ParamSet.default }, hold := false, syncPending := false }

def HumLaneSlot.reset : HumLaneSlot :=
  { wc := 0, ws := 0, status := .off, faultRun := 0, fresh := false, fault := false, aPrev := 0 }

/-- R126: every increment is R(2^36, 32 000) = 2 147 484. -/
def Hum.reset : Hum :=
  { slots := Vector.replicate 12 { theta := 0, delta := 2147484 }, periodCounter := 0, humFault := false }

/-- R163. -/
def Capture.reset : Capture :=
  { state := .disarmed, qualifier := { clicks := true, splices := true, minPeak := 0, lane0 := true, lane1 := true },
    toggle := false, missed := false, descriptor := { number := 0, kind := .click, lanes := 0, first := 0, count := 0 },
    copy0 := List.replicate 320 0, copy1 := List.replicate 320 0 }

def Watch.reset : Watch := { armed := false, mask := 0, mode := .any }

/-- R22, R40, R126, R127. -/
def LaneState.reset : LaneState :=
  { window := List.replicate 1024 { sample := 0, mark := false }, lastEntered := 0, beforeLast := 0, equalRun := 0,
    stuck := false, detector := Detector.reset, hum := Vector.replicate 12 HumLaneSlot.reset, adapted := false,
    hiss := Hiss.reset }

def Reader.reset : Reader :=
  { state := .stopped, laneMode := .stereo, pendingStart := 0, entered := 0, clockLost := false, output := none,
    lane0 := LaneState.reset, lane1 := LaneState.reset, monitor := Monitor.reset, table := [], unrecorded := 0,
    gap := false, nextNumber := 1, committedTotal := 0, schedule := [], exclusions := [], hum := Hum.reset,
    params := Params.reset, capture := Capture.reset, watch := Watch.reset, appliedSince := false }

/-- R156, R159, R162. -/
def ReportQueue.reset : ReportQueue := { records := [], placeHeld := false, lost := false, enabled := true }

/-- R175, R178, R183; the rate is that of the strap's level at State.reset (log entry 7). -/
def Link.reset : Link :=
  { receiver := { state := .hunt, kept := [] }, pendingRequest := none, reply := none, linkFault := false,
    transmitter := .idle, rate := false }

/-- The part right after reset. -/
def State.reset : State :=
  { readerA := Reader.reset, readerB := Reader.reset, queue := ReportQueue.reset, link := Link.reset, cts := true,
    ratePin := false, freeTick := 0, pending := [] }

end Sys2Proof.Machine
end

