-- ==== Sys2Proof/Machine/Ops.lean ====
section
/-! DEFINITION. The shared operations: the conventions' arithmetic, reading and writing a reader and a lane, the sample
index, the window, and the report queue's places. -/

namespace Sys2Proof.Machine

/-! ## Arithmetic of the conventions (00_scope.md) -/

/-- A signed value divided by 2^n, rounded down. -/
def divPow2 (x : Int) (n : Nat) : Int := x / (2 ^ n : Int)

/-- The rounded quotient R(num, den): floor((2 num + den) / (2 den)). -/
def roundQ (num den : Int) : Int := (2 * num + den) / (2 * den)

/-- Clamp to lo..hi. -/
def clampInt (lo hi x : Int) : Int := max lo (min hi x)

/-- Clamp to the sample range. -/
def clampSample (x : Int) : Sample := BitVec.ofInt 24 (clampInt (-8388608) 8388607 x)

/-- A value of the sample range as a sample. -/
def sampleOf (x : Int) : Sample := BitVec.ofInt 24 x

/-- A count that increases by one and holds at a limit. -/
def holdingSucc (limit n : Nat) : Nat := min (n + 1) limit

/-- The 48-bit value of an index (R5). -/
def index48 (n : Nat) : Nat := n % 2 ^ 48

/-- x minus y, taken modulo 2^48 (R26, R32, R33). -/
def since48 (x y : Nat) : Nat := (x + (2 ^ 48 - y % 2 ^ 48)) % 2 ^ 48

/-! ## Lanes and readers -/

/-- The twin of a lane (00_scope.md, Conventions). -/
def twinOf : Lane → Lane
  | .lane0 => .lane1
  | .lane1 => .lane0

def Reader.lane (rd : Reader) : Lane → LaneState
  | .lane0 => rd.lane0
  | .lane1 => rd.lane1

def Reader.onLane (rd : Reader) (l : Lane) (f : LaneState → LaneState) : Reader :=
  match l with
  | .lane0 => { rd with lane0 := f rd.lane0 }
  | .lane1 => { rd with lane1 := f rd.lane1 }

def Reader.onLanes (rd : Reader) (f : LaneState → LaneState) : Reader :=
  { rd with lane0 := f rd.lane0, lane1 := f rd.lane1 }

def State.rd (s : State) : ReaderId → Reader
  | .a => s.readerA
  | .b => s.readerB

def State.onReader (s : State) (r : ReaderId) (f : Reader → Reader) : State :=
  match r with
  | .a => { s with readerA := f s.readerA }
  | .b => { s with readerB := f s.readerB }

def State.onQueue (s : State) (f : ReportQueue → ReportQueue) : State := { s with queue := f s.queue }

def State.onLink (s : State) (f : Link → Link) : State := { s with link := f s.link }

/-- The part goes on with its run: RUNNING or BYPASSED, the states in which the index advances, stuck detection acts
and the frame monitor counts (R5, R6, R15). -/
def Reader.started (rd : Reader) : Bool :=
  match rd.state with
  | .running => true
  | .bypassed => true
  | .stopped => false
  | .armed => false

/-- The sample index: the index that the next sample to enter takes (R5). -/
def Reader.index (rd : Reader) : Nat := index48 rd.entered

/-! ## Parameter slots (R137) -/

def Params.slot (p : Params) : SlotId → ParamSlot
  | .slot0 => p.slot0
  | .slot1 => p.slot1
  | .slot2 => p.slot2

def Params.onSlot (p : Params) (i : SlotId) (f : ParamSlot → ParamSlot) : Params :=
  match i with
  | .slot0 => { p with slot0 := f p.slot0 }
  | .slot1 => { p with slot1 := f p.slot1 }
  | .slot2 => { p with slot2 := f p.slot2 }

/-- The slot that holds a role, if one does. -/
def Params.holder (p : Params) (role : Role) : Option SlotId :=
  if p.slot0.role = role then some .slot0
  else if p.slot1.role = role then some .slot1
  else if p.slot2.role = role then some .slot2
  else none

/-- The set of the slot that holds a role; slot 0 stands in where none does, which R137 rules out for ACTIVE. -/
def Params.setOf (p : Params) (role : Role) : ParamSet :=
  (p.slot ((p.holder role).getD .slot0)).set

/-- The ACTIVE set, from which every block reads its fields (R138). -/
def Reader.active (rd : Reader) : ParamSet := rd.params.setOf .active

/-! ## The window (R3, R84) -/

/-- The window position of the sample of index j, with n samples entered: j is in the window of the run when it has
entered and no more than 1024 samples have entered from it on (R5, R84). -/
def inWindow (n j : Nat) : Bool := j < n && n ≤ j + Config.windowLength

/-- The oldest index of the run that is still in the window (R47). -/
def oldestIndex (n : Nat) : Nat := n - Config.windowLength

/-- The window value of index j (R84). -/
def LaneState.value (ln : LaneState) (n j : Nat) : Int :=
  match ln.window[n - 1 - j]? with
  | some c => c.sample.toInt
  | none => 0

/-- Whether some sample of an index in lo..hi carries a stuck mark in the window (R72). -/
def LaneState.markedIn (ln : LaneState) (n lo hi : Nat) : Bool :=
  ln.window.zipIdx.any fun cp => cp.1.mark && cp.2 < n && lo ≤ n - 1 - cp.2 && n - 1 - cp.2 ≤ hi

/-- A sample enters position 0 with its mark and every other moves up one position (R3). -/
def pushCell (w : List Cell) (c : Cell) : List Cell := c :: w.dropLast

/-- The cell at position 1023, which leaves at the next entry (R3). -/
def exitingCell (w : List Cell) : Cell := w.getLastD { sample := 0, mark := false }

/-! ## The report queue's places (R157, R158) -/

def ReportBody.isDfct : ReportBody → Bool
  | .dfct _ => true
  | .frms _ _ _ _ _ => false
  | .apld _ _ _ _ _ => false
  | .hums _ _ _ _ => false
  | .lane _ _ _ _ _ _ _ _ => false
  | .capd _ _ _ _ _ => false
  | .alrt _ _ _ _ _ => false

def ReportQueue.dfctCount (q : ReportQueue) : Nat := q.records.countP (·.body.isDfct)

/-- Occupied places: the records held, and a place granted and not yet filled. -/
def ReportQueue.occupied (q : ReportQueue) : Nat := q.records.length + q.placeHeld.toNat

def ReportQueue.dfctOccupied (q : ReportQueue) : Nat := q.dfctCount + q.placeHeld.toNat

/-- A DFCT place is granted when fewer than 56 occupied places are DFCT and fewer than 64 are occupied (R157). -/
def ReportQueue.grants (q : ReportQueue) : Bool :=
  q.dfctOccupied < Config.dfctLimit && q.occupied < Config.queueCapacity

def ReportQueue.hold (q : ReportQueue) : ReportQueue := { q with placeHeld := true }

/-- The record granted a place joins the tail, and the place is no longer held (R157). -/
def ReportQueue.fill (q : ReportQueue) (x : Record) : ReportQueue :=
  { q with records := q.records ++ [x], placeHeld := false }

/-- A report other than DFCT joins the tail where a place is free, and is dropped with the report-lost flag set
otherwise (R158). -/
def ReportQueue.offer (q : ReportQueue) (x : Record) : ReportQueue :=
  if q.occupied < Config.queueCapacity then { q with records := q.records ++ [x] } else { q with lost := true }

/-- The queue is under pressure while it holds 48 records or more (R161). -/
def ReportQueue.pressure (q : ReportQueue) : Bool := Config.pressureLevel ≤ q.records.length

/-- A reader offers a report other than DFCT (R158). -/
def State.offer (s : State) (r : ReaderId) (body : ReportBody) : State :=
  s.onQueue (·.offer { reader := r, lost := false, body := body })

/-- A defect is counted unrecorded: the counter increases, holding at 65 535 (R80), and the gap flag is set (R81). -/
def Reader.countUnrecorded (rd : Reader) : Reader :=
  { rd with unrecorded := holdingSucc 65535 rd.unrecorded, gap := true }

end Sys2Proof.Machine
end

