-- ==== Sys2Proof/Machine/HissFilter.lean ====
section
/-! DEFINITION. The hiss filter (spec/07_hiss_filter.md). -/

namespace Sys2Proof.Machine

/-- The coefficient c(s) = 2048 (s + 1) (R131). -/
def hissCoefficient (step : Nat) : Int := 2048 * ((step : Int) + 1)

/-- The filter update: y plus ((e - y) c(s)) divided by 2^16, rounded down (R131). -/
def hissFilter (step : Nat) (y e : Sample) : Sample :=
  sampleOf (y.toInt + divPow2 ((e.toInt - y.toInt) * hissCoefficient step) 16)

/-- The high-band magnitude |e[n] - e[n-1]| (R129). -/
def highBand (e prev : Sample) : Nat := (e.toInt - prev.toInt).natAbs

/-- The step after a block of level B: down by one to no less than s_min, or up by u to no more than 31 (R130). -/
def stepAfter (p : ParamSet) (step level : Nat) : Nat :=
  if level * 16 < p.floor * p.margin then max (step - 1) p.minStep else min (step + p.upRate) 31

/-- The completion of a block: B is the block sum divided by 2^6, the step moves, sum and count become 0 (R129, R130). -/
def Hiss.completeBlock (h : Hiss) (p : ParamSet) : Hiss :=
  { h with step := stepAfter p h.step (h.blockSum / 64), blockSum := 0, blockCount := 0 }

/-- A block is complete with its 64th residual (R129). -/
def Hiss.blockDue (h : Hiss) : Bool := 64 ≤ h.blockCount

/-- A residual measured and filtered, before any block completes (R128 steps 1 and 2). -/
def Hiss.take (h : Hiss) (e : Sample) : Hiss :=
  { h with blockSum := h.blockSum + highBand e h.prev, blockCount := h.blockCount + 1, prev := e, y := hissFilter h.step h.y e }

/-- The filter's work for one residual (R128), or, disabled, the residual handed on (R132). -/
def Hiss.process (h : Hiss) (p : ParamSet) (e : Sample) : Hiss :=
  if p.hissEnable then
    if (h.take e).blockDue then (h.take e).completeBlock p else h.take e
  else { h with y := e, prev := e }

/-- The filter at an apply (R132, R133). -/
def Hiss.apply (h : Hiss) (old new : ParamSet) : Hiss :=
  if old.hissEnable == new.hissEnable then { h with step := max h.step new.minStep }
  else if new.hissEnable then h
  else { h with step := 31, blockSum := 0, blockCount := 0 }

/-- The start values (R127). -/
def Hiss.start : Hiss := { step := 31, y := 0, prev := 0, blockSum := 0, blockCount := 0 }

end Sys2Proof.Machine
end

