-- ==== Sys2Proof/Machine/Flags.lean ====
section
/-! DEFINITION. The flags and conditions the part computes: the ten conditions of the alert watch, and the flag bytes
of replies and reports. -/

namespace Sys2Proof.Machine

/-- Bit k of a 16-bit mask, where b holds. -/
def maskBit (b : Bool) (k : Nat) : BitVec 16 := if b then 1#16 <<< k else 0#16

/-- Bit k of a byte, where b holds. -/
def byteBit (b : Bool) (k : Nat) : Byte := if b then 1#8 <<< k else 0#8

/-- Some slot of the reader is PARKED on either lane (R120). -/
def Reader.humParked (rd : Reader) : Bool :=
  rd.lane0.hum.any (·.status == .parked) || rd.lane1.hum.any (·.status == .parked)

/-- The ten conditions of R169 in the bit order of R181. -/
def State.conditions (s : State) (r : ReaderId) : BitVec 16 :=
  let rd := s.rd r
  maskBit (rd.monitor.state == .holdover) 0
    ||| maskBit (rd.monitor.state == .free) 1
    ||| maskBit rd.hum.humFault 2
    ||| maskBit rd.humParked 3
    ||| maskBit rd.lane0.stuck 4
    ||| maskBit rd.lane1.stuck 5
    ||| maskBit rd.clockLost 6
    ||| maskBit (rd.capture.state == .held) 7
    ||| maskBit s.queue.pressure 8
    ||| maskBit (rd.unrecorded != 0) 9

/-- The bits that name the ten conditions. -/
def conditionBits : BitVec 16 := 0x03FF#16

/-- An armed watch is satisfied when some condition of its mask holds (ANY), or every one (ALL) (R170). -/
def Watch.satisfied (w : Watch) (conditions : BitVec 16) : Bool :=
  w.armed && (match w.mode with
    | .any => conditions &&& w.mask != 0#16
    | .all => conditions &&& w.mask == w.mask)

/-- The lane conditions byte of STAT and of LANE reports: STUCK of lane 0, STUCK of lane 1, clock lost. -/
def laneConditions (stuck0 stuck1 lost : Bool) : Byte :=
  byteBit stuck0 0 ||| byteBit stuck1 1 ||| byteBit lost 2

/-- The parameter flags byte of STAT: hold, sync-pending. -/
def Params.flags (p : Params) : Byte := byteBit p.hold 0 ||| byteBit p.syncPending 1

/-- The flags byte of a report: report-lost, and the bits of its kind (section 10.6). -/
def Record.flags (x : Record) : Byte :=
  byteBit x.lost 0 ||| (match x.body with
    | .dfct f => byteBit f.gapBefore 1 ||| byteBit f.captured 2
    | .apld _ released _ _ _ => byteBit released 1
    | .frms _ _ _ _ _ => 0#8
    | .hums _ _ _ _ => 0#8
    | .lane _ _ _ _ _ _ _ _ => 0#8
    | .capd _ _ _ _ _ => 0#8
    | .alrt _ _ _ _ _ => 0#8)

/-! ## Watches (R170, R186) -/

/-- A satisfied watch offers one ALRT report with the conditions that satisfied it, and becomes disarmed, whether or
not the report is kept (R170). -/
def State.fireWatch (s : State) (r : ReaderId) (conditions : BitVec 16) : State :=
  let rd := s.rd r
  (s.offer r (.alrt conditions rd.watch.mask rd.watch.mode rd.monitor.frameCount rd.index)).onReader r
    fun x => { x with watch := { x.watch with armed := false } }

/-- Evaluate one reader's watch. -/
def State.evaluateWatch (s : State) (r : ReaderId) : State :=
  if (s.rd r).watch.satisfied (s.conditions r) then s.fireWatch r (s.conditions r) else s

/-- Evaluate both watches once an event is complete (R186). An evaluation that no change brings finds an armed watch
unsatisfied, as the last one left it. An ALRT that joins may itself bring the queue under pressure, so the other
watch is evaluated after it. Where the event satisfies both at once, Config.watchOrder decides whose ALRT joins first
(R156, log entry 5). -/
def State.evaluateWatches (s : State) : State :=
  let satA := (s.rd .a).watch.satisfied (s.conditions .a)
  let satB := (s.rd .b).watch.satisfied (s.conditions .b)
  if satA && satB then
    let s1 := { s with freeTick := s.freeTick + 1 }
    if Config.watchOrder s.freeTick then (s1.fireWatch .a (s.conditions .a)).fireWatch .b (s.conditions .b)
    else (s1.fireWatch .b (s.conditions .b)).fireWatch .a (s.conditions .a)
  else if satA then (s.fireWatch .a (s.conditions .a)).evaluateWatch .b
  else if satB then (s.fireWatch .b (s.conditions .b)).evaluateWatch .a
  else s

/-- Evaluate the watches where an event that began in old has changed a condition of either reader (R170, R186). A
condition changed before old by an event not yet complete waits for that event's own evaluation. -/
def State.evaluateChange (old s : State) : State :=
  if old.conditions .a = s.conditions .a ∧ old.conditions .b = s.conditions .b then s else s.evaluateWatches

end Sys2Proof.Machine
end

