-- ==== Sys2Proof/Machine/Hum.lean ====
section
/-! DEFINITION. Hum cancellation (spec/06_hum_cancellation.md): increments, phases, estimate and weights, lock monitoring,
and the HUMS report. -/

namespace Sys2Proof.Machine

/-! ## Increments (R108 to R110) -/

/-- The increment of a slot from its configuration, the reader-wide fields and S (R108); a result of 2^32 or more is
held as 2^32 - 1. -/
def slotIncrement (c : HumConfig) (mains nominalRate smoothed : Nat) : BitVec 32 :=
  let q : Int := match c.source with
    | .frame => roundQ (2 ^ 36 * c.order) smoothed
    | .mains => roundQ (2 ^ 36 * 100 * mains * c.order) (nominalRate * smoothed)
    | .fixed => c.fixedInc
  BitVec.ofNat 32 (min q.toNat (2 ^ 32 - 1))

/-- An increment of 2^31 or more is out of band (R110). -/
def outOfBand (delta : BitVec 32) : Bool := 2 ^ 31 ≤ delta.toNat

/-- A slot is active on a lane while its status there is SEEKING or LOCKED (R105). -/
def HumStatus.active : HumStatus → Bool
  | .seeking => true
  | .locked => true
  | .off => false
  | .outOfBand => false
  | .parked => false

/-- A slot whose state on a lane is set to nothing, with a status. -/
def HumLaneSlot.cleared (status : HumStatus) : HumLaneSlot :=
  { wc := 0, ws := 0, status := status, faultRun := 0, fresh := false, fault := false, aPrev := 0 }

/-- The out-of-band test of one slot on one lane at a recomputation (R110). -/
def HumLaneSlot.bandTest (x : HumLaneSlot) (delta : BitVec 32) : HumLaneSlot :=
  if x.status.active && outOfBand delta then HumLaneSlot.cleared .outOfBand else x

/-- The status a slot takes at the start point or at an apply that changes its configuration (R123, R124). -/
def startStatus (c : HumConfig) (delta : BitVec 32) : HumStatus :=
  if c.enabled then (if outOfBand delta then .outOfBand else .seeking) else .off

/-- The increments of all twelve slots from the ACTIVE set and S, the phases kept (R109). -/
def Hum.recompute (h : Hum) (p : ParamSet) (smoothed : Nat) : Hum :=
  { h with slots := Vector.ofFn fun i : Fin 12 =>
      { h.slots[i] with delta := slotIncrement p.hum[i] p.mains p.nominalRate smoothed } }

def LaneState.bandTest (ln : LaneState) (h : Hum) : LaneState :=
  { ln with hum := Vector.ofFn fun i : Fin 12 => ln.hum[i].bandTest h.slots[i].delta }

/-- The items of a HUMS report: every slot and lane whose status differs, in order of slot and lane 0 first (R121). -/
def statusChanges (old new : Reader) : List HumItem :=
  (List.finRange 12).flatMap fun i =>
    (if old.lane0.hum[i].status == new.lane0.hum[i].status then []
     else [{ slot := i.val, lane := .lane0, status := new.lane0.hum[i].status }]) ++
    (if old.lane1.hum[i].status == new.lane1.hum[i].status then []
     else [{ slot := i.val, lane := .lane1, status := new.lane1.hum[i].status }])

/-- Offer the HUMS report of an event, if it changed a status (R121). -/
def State.offerHums (s : State) (r : ReaderId) (cause : HumsCause) (index : Nat) (old : Reader) : State :=
  match statusChanges old (s.rd r) with
  | [] => s
  | items => s.offer r (.hums cause (s.rd r).monitor.frameCount index items)

/-- The recomputation of R109 on a reader, with the out-of-band test on each lane (R110). -/
def Reader.recomputeHum (rd : Reader) : Reader :=
  let h := rd.hum.recompute rd.active rd.monitor.smoothed
  ({ rd with hum := h }).onLanes (·.bandTest h)

/-- The recomputation the frame monitor brings when S takes a value, with its HUMS report of cause BAND (R109, R110). -/
def recomputeIncrements (r : ReaderId) (index : Nat) (s : State) : State :=
  let old := s.rd r
  ((s.onReader r Reader.recomputeHum).offerHums r .band index old).evaluateWatches

/-! ## Phase, estimate and weights (R111 to R115) -/

/-- Each slot whose increment lies in 1 to 2^31 - 1 advances its phase by it, modulo 2^32 (R111). -/
def HumSlot.advance (x : HumSlot) : HumSlot :=
  if outOfBand x.delta then x else { x with theta := x.theta + x.delta }

def Hum.advance (h : Hum) : Hum := { h with slots := h.slots.map HumSlot.advance }

/-- The estimate of one active slot (R113). -/
def HumLaneSlot.estimate (x : HumLaneSlot) (theta : BitVec 32) : Int :=
  divPow2 (x.wc * cosineOf theta + x.ws * sineOf theta) 15

/-- The residual e of a lane: the exiting sample less the estimates of its active slots, clamped (R113). -/
def LaneState.residual (ln : LaneState) (h : Hum) (x : Sample) : Sample :=
  clampSample (x.toInt -
    ((List.finRange 12).map fun i =>
      if ln.hum[i].status.active then ln.hum[i].estimate h.slots[i].theta else 0).sum)

/-- Hold a weight within its range (R114). -/
def holdWeight (w : Int) : Int := clampInt (-Config.weightLimit) Config.weightLimit w

/-- The weight update of one slot from e (R114); a held result sets FAULT and clears FRESH. -/
def HumLaneSlot.update (x : HumLaneSlot) (theta : BitVec 32) (shift : Nat) (e : Int) : HumLaneSlot :=
  let wc := x.wc + divPow2 (e * cosineOf theta) shift
  let ws := x.ws + divPow2 (e * sineOf theta) shift
  let held := holdWeight wc != wc || holdWeight ws != ws
  { x with wc := holdWeight wc, ws := holdWeight ws, fault := x.fault || held, fresh := x.fresh && !held }

/-- All active slots of a lane update from the same residual, and the lane's adapted mark is set (R114, R115). -/
def LaneState.adapt (ln : LaneState) (h : Hum) (p : ParamSet) (e : Sample) : LaneState :=
  { ln with
    adapted := true
    hum := Vector.ofFn fun i : Fin 12 =>
      if ln.hum[i].status.active then ln.hum[i].update h.slots[i].theta p.hum[i].shift e.toInt else ln.hum[i] }

/-! ## Lock monitoring (R116 to R120) -/

/-- The amplitude measure A (R116). -/
def HumLaneSlot.amplitude (x : HumLaneSlot) : Nat :=
  max x.wc.natAbs x.ws.natAbs + min x.wc.natAbs x.ws.natAbs / 2

/-- The judgement of one active slot at a frame event (R116). -/
def HumLaneSlot.judge (x : HumLaneSlot) : HumLaneSlot :=
  let a := x.amplitude
  let steady := !x.fault && 64 ≤ a && ((a : Int) - x.aPrev).natAbs * 8 ≤ x.aPrev
  { x with fresh := x.fresh || steady, aPrev := a }

/-- The judgement of a lane whose adapted mark is set; the mark is then cleared (R116). -/
def LaneState.judgeHum (ln : LaneState) : LaneState :=
  { ln with
    adapted := false
    hum := if ln.adapted then ln.hum.map fun x => if x.status.active then x.judge else x else ln.hum }

/-- The settlement of one slot on one lane at a period end (R118, R119). -/
def HumLaneSlot.settle (x : HumLaneSlot) : HumLaneSlot :=
  if x.status.active then
    if x.fault then
      { wc := 0, ws := 0, aPrev := 0, faultRun := x.faultRun + 1, fresh := false, fault := false,
        status := if 4 ≤ x.faultRun + 1 then .parked else .seeking }
    else
      { x with faultRun := 0, fresh := false, status := if x.fresh then .locked else .seeking }
  else x

/-- A slot of the lane that is settled has FAULT set (R120). -/
def LaneState.humFaulted (ln : LaneState) : Bool := ln.hum.any fun x => x.status.active && x.fault

def LaneState.settleHum (ln : LaneState) : LaneState := { ln with hum := ln.hum.map HumLaneSlot.settle }

/-- A period end on a reader: every slot settled, the hum-fault flag set or cleared, the counter 0 (R117, R118, R120). -/
def Reader.settleHum (rd : Reader) : Reader :=
  ({ rd with hum := { rd.hum with
      periodCounter := 0, humFault := rd.lane0.humFaulted || rd.lane1.humFaulted } }).onLanes LaneState.settleHum

/-- PERIOD_END: the settlement, its HUMS report, then the watches (R118, R121, R186). -/
def endPeriod (r : ReaderId) (index : Nat) (s : State) : State :=
  let old := s.rd r
  ((s.onReader r Reader.settleHum).offerHums r .period index old).evaluateWatches

/-- A period is due to end when the counter has reached the monitor period (R117). -/
def Reader.periodDue (rd : Reader) : Bool :=
  rd.state == .running && rd.active.monitorPeriod ≤ rd.hum.periodCounter

/-- The judgement and the period count of a reader at a frame event in RUNNING (R116, R117). -/
def Reader.humCount (rd : Reader) : Reader :=
  ({ rd with hum := { rd.hum with periodCounter := rd.hum.periodCounter + 1 } }).onLanes LaneState.judgeHum

/-- The hum canceller's reaction to a frame event (R116, R117, R118): none but in RUNNING. A recomputation that the frame
event brings has come before it (DESIGN CHOICE, log entry 39). -/
def humFrameEvent (r : ReaderId) (index : Nat) (s : State) : State :=
  if (s.rd r).state == .running then
    let s1 := s.onReader r Reader.humCount
    if (s1.rd r).periodDue then endPeriod r index s1 else s1
  else s

/-! ## Start, stop and apply (R123 to R125) -/

/-- The start values of the hum canceller (R124). -/
def Reader.startHum (rd : Reader) : Reader :=
  let p := rd.active
  let slots : Vector HumSlot 12 := Vector.ofFn fun i : Fin 12 =>
    { theta := 0, delta := slotIncrement p.hum[i] p.mains p.nominalRate rd.monitor.smoothed }
  ({ rd with hum := { slots := slots, periodCounter := 0, humFault := false } }).onLanes fun ln =>
    { ln with
      adapted := false
      hum := Vector.ofFn fun i : Fin 12 => HumLaneSlot.cleared (startStatus p.hum[i] slots[i].delta) }

/-- What STOP does to a lane's hum state: weights, A_prev, FRESH, FAULT and the adapted mark; the statuses and fault
runs are kept for reading (R125). -/
def LaneState.stopHum (ln : LaneState) : LaneState :=
  { ln with
    adapted := false
    hum := ln.hum.map fun x => { x with wc := 0, ws := 0, aPrev := 0, fresh := false, fault := false } }

/-- A slot's configuration has changed: any of its five fields, and for a MAINS slot also M or Fn (R105, R123). -/
def configChanged (old new : ParamSet) (i : Fin 12) : Bool :=
  old.hum[i] != new.hum[i] ||
    (new.hum[i].source == .mains && (old.mains != new.mains || old.nominalRate != new.nominalRate))

/-- One slot on one lane at an apply (R123, second and third step). -/
def HumLaneSlot.apply (x : HumLaneSlot) (changed : Bool) (c : HumConfig) (delta : BitVec 32) : HumLaneSlot :=
  if changed then HumLaneSlot.cleared (startStatus c delta) else x.bandTest delta

/-- The hum canceller at an apply: every increment recomputed from S as clamped, changed slots reset, the others
tested for their band, the period counter 0 where the monitor period changed (R123, R117). -/
def Reader.applyHum (rd : Reader) (old : ParamSet) : Reader :=
  let p := rd.active
  let h := rd.hum.recompute p rd.monitor.smoothed
  ({ rd with hum := { h with
      periodCounter := if old.monitorPeriod = p.monitorPeriod then h.periodCounter else 0 } }).onLanes fun ln =>
    { ln with hum := Vector.ofFn fun i : Fin 12 =>
        ln.hum[i].apply (configChanged old p i) p.hum[i] h.slots[i].delta }

end Sys2Proof.Machine
end

