-- ==== Sys2Proof/Machine/Monitor.lean ====
section
/-! DEFINITION. The frame monitor (spec/02_frame_timing.md): judging a real pulse, the holdover test and virtual ticks. -/

namespace Sys2Proof.Machine

/-! ## Judging an interval (R26, R28 to R31, R34) -/

/-- What the monitor's own work for a real pulse brings besides its new state: the cause of an FRMS report if one is
offered, and whether S took a value, so that the increments are recomputed (R25). -/
structure PulseOutcome where
  monitor : Monitor
  report : Option FrmsCause
  recompute : Bool
deriving DecidableEq, Repr

/-- The measured interval of a pulse, if it has one: the reference is VALID and the reader is not clock lost (R26, R38). -/
def Monitor.interval (m : Monitor) (timestamp : Nat) (lost : Bool) : Option Nat :=
  match m.reference with
  | .valid t => if lost then none else some (since48 timestamp t)
  | .void _ => none
  | .none => none

/-- Pmin ≤ P ≤ Pmax. -/
def inBounds (p : ParamSet) (interval : Nat) : Bool := p.pmin ≤ interval && interval ≤ p.pmax

/-- The acceptance test of R28. -/
def Monitor.accepts (m : Monitor) (p : ParamSet) (interval : Nat) : Bool :=
  inBounds p interval && m.smoothed - m.smoothed / 8 ≤ 16 * interval && 16 * interval ≤ m.smoothed + m.smoothed / 8

/-- S after an acceptance: S plus (16P - S) divided by 2^3, rounded down (R28). -/
def smoothedAfter (smoothed interval : Nat) : Nat :=
  ((smoothed : Int) + divPow2 (16 * (interval : Int) - smoothed) 3).toNat

/-- Two rejected intervals agree: |16P - 16P1| ≤ floor(16 P1 / 8) (R29). -/
def intervalsAgree (first interval : Nat) : Bool :=
  (16 * (interval : Int) - 16 * first).natAbs ≤ 16 * first / 8

/-- A rejected interval in TRACKING (R29, R30). -/
def Monitor.reject (m : Monitor) (p : ParamSet) (interval : Nat) : PulseOutcome :=
  let m1 := { m with glitches := holdingSucc 65535 m.glitches }
  if inBounds p interval then
    match m.rejected with
    | [] => { monitor := { m1 with rejected := [interval] }, report := none, recompute := false }
    | first :: more =>
      if intervalsAgree first interval then
        match more with
        | [] => { monitor := { m1 with rejected := [first, interval] }, report := none, recompute := false }
        | _ :: _ => { monitor := { m1 with rejected := [], smoothed := 16 * interval }, report := some .reseed, recompute := true }
      else { monitor := { m1 with rejected := [interval] }, report := none, recompute := false }
  else { monitor := { m1 with rejected := [] }, report := none, recompute := false }

/-- A real pulse judged in TRACKING (R28, R29). -/
def Monitor.judgeTracking (m : Monitor) (p : ParamSet) : Option Nat → PulseOutcome
  | none => { monitor := { m with rejected := [] }, report := none, recompute := false }
  | some interval =>
    if m.accepts p interval then
      { monitor := { m with smoothed := smoothedAfter m.smoothed interval, rejected := [] }, report := none, recompute := true }
    else m.reject p interval

/-- A real pulse judged in ABSENT or FREE (R31). -/
def Monitor.judgeSeeding (m : Monitor) (p : ParamSet) : Option Nat → PulseOutcome
  | none => { monitor := { m with rejected := [] }, report := none, recompute := false }
  | some interval =>
    if inBounds p interval then
      { monitor := { m with state := .tracking, smoothed := 16 * interval, rejected := [] }, report := some .enterTrack, recompute := true }
    else { monitor := m, report := none, recompute := false }

/-- A real pulse in HOLDOVER, whatever its interval (R34). -/
def Monitor.endHoldover (m : Monitor) : PulseOutcome :=
  { monitor := { m with state := .tracking, holdoverTicks := 0, rejected := [] }, report := some .enterTrack, recompute := false }

/-- A real pulse judged in the monitor's state (R27). -/
def Monitor.judge (m : Monitor) (p : ParamSet) (interval : Option Nat) : PulseOutcome :=
  match m.state with
  | .tracking => m.judgeTracking p interval
  | .holdover => m.endHoldover
  | .absent => m.judgeSeeding p interval
  | .free => m.judgeSeeding p interval

/-- The pulse becomes the reference and the last frame event (R26, R31, R34). -/
def Monitor.refer (m : Monitor) (timestamp : Nat) (lost : Bool) : Monitor :=
  { m with reference := if lost then .void timestamp else .valid timestamp, lastEvent := timestamp }

/-- The monitor's own work for a real pulse: the count (R24), the judgement, and the new reference. -/
def Monitor.pulse (m : Monitor) (p : ParamSet) (timestamp : Nat) (lost : Bool) : PulseOutcome :=
  let counted := { m with frameCount := holdingSucc (2 ^ 32 - 1) m.frameCount }
  let out := counted.judge p (m.interval timestamp lost)
  { out with monitor := out.monitor.refer timestamp lost }

/-- Offer the FRMS report of a change or a reseed (R39). -/
def State.offerFrms (s : State) (r : ReaderId) (cause : FrmsCause) (index : Nat) : State :=
  let m := (s.rd r).monitor
  s.offer r (.frms m.state cause m.smoothed m.frameCount index)

/-- The frame monitor's part of a real pulse in RUNNING or BYPASSED: its own work with its FRMS report, then the
watches (R186), then the recomputation that a new S brings (R109). DESIGN CHOICE (log entry 39): the recomputation, its band
test and its HUMS report come before the apply (R150) and before the judgement and the period end (R116 to R118) of the same
frame event. -/
def monitorPulse (r : ReaderId) (s : State) : State :=
  let rd := s.rd r
  let index := rd.index
  let out := rd.monitor.pulse rd.active index rd.clockLost
  let s1 := s.onReader r fun x => { x with monitor := out.monitor }
  let s2 := match out.report with
    | some cause => s1.offerFrms r cause index
    | none => s1
  let s3 := s2.evaluateWatches
  if out.recompute then recomputeIncrements r index s3 else s3

/-! ## The holdover test and virtual ticks (R32, R33, R35) -/

/-- The timestamp of the reference, where it holds one. -/
def Reference.timestamp : Reference → Option Nat
  | .none => Option.none
  | .void t => some t
  | .valid t => some t

/-- The monitor acts at entries: the reader is started and not clock lost (R25, R38). -/
def Reader.monitorActs (rd : Reader) : Bool := rd.started && !rd.clockLost

/-- HOLDOVER is due: in TRACKING, floor(2S/16) samples have passed since the reference (R32). -/
def Reader.holdoverDue (rd : Reader) : Bool :=
  rd.monitorActs && rd.monitor.state == .tracking &&
    match rd.monitor.reference.timestamp with
    | some t => 2 * rd.monitor.smoothed / 16 ≤ since48 rd.index t
    | none => false

/-- The tick spacing in the monitor's state, where it ticks (R33, R35). -/
def Monitor.spacing (m : Monitor) (p : ParamSet) : Option Nat :=
  match m.state with
  | .holdover => some (m.smoothed / 16)
  | .absent => some (p.pn / 16)
  | .free => some (p.pn / 16)
  | .tracking => none

/-- A virtual tick is due: the spacing has elapsed since the last frame event (R33, R35). -/
def Reader.tickDue (rd : Reader) : Bool :=
  rd.monitorActs &&
    match rd.monitor.spacing rd.active with
    | some d => d ≤ since48 rd.index rd.monitor.lastEvent
    | none => false

/-- The tick that is due brings FREE: it takes the holdover tick count to H (R33). -/
def Reader.freeDue (rd : Reader) : Bool :=
  rd.tickDue && rd.monitor.state == .holdover && rd.active.holdover ≤ rd.monitor.holdoverTicks + 1

/-- Entry into HOLDOVER (R32). -/
def Monitor.enterHoldover (m : Monitor) : Monitor :=
  { m with state := .holdover, rejected := [], holdoverTicks := 0 }

/-- A virtual tick: the last frame event, counted in HOLDOVER (R33, R35). -/
def Monitor.tick (m : Monitor) (index : Nat) : Monitor :=
  match m.state with
  | .holdover => { m with lastEvent := index, holdoverTicks := m.holdoverTicks + 1 }
  | .absent => { m with lastEvent := index }
  | .tracking => { m with lastEvent := index }
  | .free => { m with lastEvent := index }

/-- The holdover tick count has reached or passed H (R33). -/
def Monitor.exhausted (m : Monitor) (p : ParamSet) : Bool :=
  m.state == .holdover && p.holdover ≤ m.holdoverTicks

/-- Entry into FREE with S set to Pn (R33). -/
def Monitor.enterFree (m : Monitor) (p : ParamSet) : Monitor :=
  { m with state := .free, smoothed := p.pn, holdoverTicks := 0, rejected := [] }

/-- The entry into HOLDOVER with its FRMS report (R32). -/
def enterHoldover (r : ReaderId) (s : State) : State :=
  let s1 := s.onReader r fun x => { x with monitor := x.monitor.enterHoldover }
  s1.offerFrms r .holdover (s1.rd r).index

/-- The monitor's own work for a virtual tick: the tick, and the entry into FREE where the count has reached H; then
the watches (R186) and the recomputation that Pn brings (R109), before an apply, a judgement and a period end of the same
frame event (DESIGN CHOICE, log entry 39). -/
def monitorTick (r : ReaderId) (s : State) : State :=
  let index := (s.rd r).index
  let s1 := s.onReader r fun x => { x with monitor := x.monitor.tick index }
  if (s1.rd r).monitor.exhausted (s1.rd r).active then
    let s2 := s1.onReader r fun x => { x with monitor := x.monitor.enterFree x.active }
    recomputeIncrements r index (s2.offerFrms r .free index).evaluateWatches
  else s1.evaluateWatches

/-! ## Clamp, start, stop and clock loss -/

/-- S clamped into [16 Pmin, 16 Pmax] at an apply (R37). -/
def Monitor.clampS (m : Monitor) (p : ParamSet) : Monitor :=
  { m with smoothed := max (16 * p.pmin) (min m.smoothed (16 * p.pmax)) }

/-- The start values of the monitor (R25). -/
def Monitor.start (pn startFrame : Nat) : Monitor :=
  { state := .absent, smoothed := pn, frameCount := startFrame, reference := .none, rejected := [], lastEvent := 0,
    holdoverTicks := 0, glitches := 0 }

/-- The monitor at STOP (R25): S, the frame count, the last event index and the glitch count are kept. -/
def Monitor.stop (m : Monitor) : Monitor :=
  { m with state := .absent, reference := .none, rejected := [], holdoverTicks := 0 }

/-- Becoming clock lost turns a VALID reference into VOID (R26, R38). -/
def Monitor.loseClock (m : Monitor) : Monitor :=
  { m with reference := match m.reference with
      | .valid t => .void t
      | .void t => .void t
      | .none => .none }

end Sys2Proof.Machine
end

