-- ==== Sys2Proof/Machine/Operands.lean ====
section
/-! DEFINITION. The operand forms: byte order, the codes of section 10.7, the requests and their frames (section 10.6),
and the status codes (section 10.5). -/

namespace Sys2Proof.Machine

/-! ## Byte order: least significant byte first (R181) -/

/-- The n bytes of a natural number, least significant first. -/
def le : Nat → Nat → List Byte
  | 0, _ => []
  | n + 1, v => BitVec.ofNat 8 v :: le n (v / 256)

/-- The n bytes of a signed number in two's complement, least significant first. -/
def leInt (n : Nat) (v : Int) : List Byte := le n (BitVec.ofInt (8 * n) v).toNat

def word16 (b0 b1 : Byte) : BitVec 16 := b1 ++ b0

def word32 (b0 b1 b2 b3 : Byte) : BitVec 32 := (b3 ++ b2) ++ (b1 ++ b0)

def bytes16 (w : BitVec 16) : List Byte := [w.extractLsb' 0 8, w.extractLsb' 8 8]

def bytes32 (w : BitVec 32) : List Byte :=
  [w.extractLsb' 0 8, w.extractLsb' 8 8, w.extractLsb' 16 8, w.extractLsb' 24 8]

/-! ## Codes (section 10.7) -/

def boolCode (b : Bool) : Byte := if b then 1 else 0

def readerCode : ReaderId → Byte
  | .a => 0
  | .b => 1

/-- The reader a reader field names (R1). -/
def readerOf (b : Byte) : Option ReaderId :=
  if b = 0 then some .a else if b = 1 then some .b else none

def laneCode : Lane → Byte
  | .lane0 => 0
  | .lane1 => 1

def laneOf (b : Byte) : Option Lane :=
  if b = 0 then some .lane0 else if b = 1 then some .lane1 else none

def laneModeOf (b : Byte) : Option LaneMode :=
  if b = 0 then some .twin else if b = 1 then some .stereo else none

def LaneMode.code : LaneMode → Byte
  | .twin => 0
  | .stereo => 1

def ReaderState.code : ReaderState → Byte
  | .stopped => 0
  | .armed => 1
  | .running => 2
  | .bypassed => 3

def MonitorState.code : MonitorState → Byte
  | .absent => 0
  | .tracking => 1
  | .holdover => 2
  | .free => 3

def FrmsCause.code : FrmsCause → Byte
  | .enterTrack => 0
  | .reseed => 1
  | .holdover => 2
  | .free => 3

def Kind.code : Kind → Byte
  | .click => 0
  | .splice => 1

/-- The code of a method or outcome. UNRECORDED is carried by no message (R79). -/
def Method.code : Method → Byte
  | .fill => 0
  | .linear => 1
  | .twin => 2
  | .passed => 3
  | .vetoed => 4
  | .bypassed => 5
  | .missed => 6
  | .unrecorded => 7

def LaneMask.code : LaneMask → Nat
  | .only .lane0 => 1
  | .only .lane1 => 2
  | .both => 3

def HumSource.code : HumSource → Byte
  | .frame => 0
  | .mains => 1
  | .fixed => 2

def HumStatus.code : HumStatus → Byte
  | .off => 0
  | .outOfBand => 1
  | .seeking => 2
  | .locked => 3
  | .parked => 4

def HumsCause.code : HumsCause → Byte
  | .period => 0
  | .band => 1
  | .apply => 2

def ApldCause.code : ApldCause → Byte
  | .pulse => 0
  | .tick => 1
  | .start => 2

def LaneCause.code : LaneCause → Byte
  | .stuck => 0
  | .unstuck => 1
  | .clockLost => 2
  | .clockBack => 3

def Role.code : Role → Byte
  | .active => 0
  | .edit => 1
  | .staged => 2
  | .spare => 3

def roleOf (b : Byte) : Option Role :=
  if b = 0 then some .active else if b = 1 then some .edit
  else if b = 2 then some .staged else if b = 3 then some .spare else none

def SlotId.code : SlotId → Byte
  | .slot0 => 0
  | .slot1 => 1
  | .slot2 => 2

def CaptureState.code : CaptureState → Byte
  | .disarmed => 0
  | .armed => 1
  | .held => 2

def WatchMode.code : WatchMode → Byte
  | .any => 0
  | .all => 1

def watchModeOf (b : Byte) : Option WatchMode :=
  if b = 0 then some .any else if b = 1 then some .all else none

/-- The status codes (section 10.5). -/
inductive Status where
  | ok | clamped | superseded | noEffect | unknown | length | reader | state | full | late | overlap | inconsistent
  | notFound | notHeld | value
deriving DecidableEq, Repr

def Status.code : Status → Byte
  | .ok => 0x00
  | .clamped => 0x01
  | .superseded => 0x02
  | .noEffect => 0x03
  | .unknown => 0x10
  | .length => 0x11
  | .reader => 0x12
  | .state => 0x13
  | .full => 0x14
  | .late => 0x15
  | .overlap => 0x16
  | .inconsistent => 0x17
  | .notFound => 0x18
  | .notHeld => 0x19
  | .value => 0x1A

/-! ## Requests (section 10.6) -/

/-- The requests of the link, each with the raw fields of its payload. -/
inductive Request where
  | idnt
  | strt (reader laneMode option : Byte) (startFrame : BitVec 32)
  | stop (reader : Byte)
  | byps (reader setting : Byte)
  | setw (reader : Byte) (writes : List FieldWrite)
  | setr (reader role : Byte)
  | setc (reader : Byte)
  | hold (mask : Byte)
  | sync (mask : Byte)
  | rels (mask : Byte)
  | splm (reader : Byte) (picture : BitVec 32)
  | splc (reader : Byte) (due : BitVec 32)
  | spll (reader : Byte)
  | exca (reader : Byte) (first last : BitVec 32)
  | excr (reader : Byte) (first : BitVec 32)
  | excl (reader : Byte)
  | capa (reader kindMask : Byte) (minPeak : BitVec 16) (laneMask : Byte)
  | capr (reader lane : Byte) (offset count : BitVec 16)
  | capx (reader : Byte)
  | wtch (reader : Byte) (mask : BitVec 16) (mode : Byte)
  | wtcd (reader : Byte)
  | stat (reader : Byte)
  | humr (reader : Byte)
  | rept (setting : Byte)
  | rset
deriving DecidableEq, Repr

/-- The type code of a request. -/
def Request.code : Request → Byte
  | .idnt => 0x01
  | .strt _ _ _ _ => 0x02
  | .stop _ => 0x03
  | .byps _ _ => 0x04
  | .setw _ _ => 0x05
  | .setr _ _ => 0x06
  | .setc _ => 0x07
  | .hold _ => 0x08
  | .sync _ => 0x09
  | .rels _ => 0x0A
  | .splm _ _ => 0x0B
  | .splc _ _ => 0x0C
  | .spll _ => 0x0D
  | .exca _ _ _ => 0x0E
  | .excr _ _ => 0x0F
  | .excl _ => 0x10
  | .capa _ _ _ _ => 0x11
  | .capr _ _ _ _ => 0x12
  | .capx _ => 0x13
  | .wtch _ _ _ => 0x14
  | .wtcd _ => 0x15
  | .stat _ => 0x16
  | .humr _ => 0x17
  | .rept _ => 0x18
  | .rset => 0x19

def writeBytes (w : FieldWrite) : List Byte := w.id :: bytes32 w.value

/-- The payload of a request, field by field (section 10.6). -/
def Request.payload : Request → List Byte
  | .idnt => []
  | .strt r m o f => r :: m :: o :: bytes32 f
  | .stop r => [r]
  | .byps r x => [r, x]
  | .setw r ws => r :: BitVec.ofNat 8 ws.length :: ws.flatMap writeBytes
  | .setr r x => [r, x]
  | .setc r => [r]
  | .hold m => [m]
  | .sync m => [m]
  | .rels m => [m]
  | .splm r f => r :: bytes32 f
  | .splc r f => r :: bytes32 f
  | .spll r => [r]
  | .exca r f g => r :: (bytes32 f ++ bytes32 g)
  | .excr r f => r :: bytes32 f
  | .excl r => [r]
  | .capa r k p m => r :: k :: (bytes16 p ++ [m])
  | .capr r l o n => r :: l :: (bytes16 o ++ bytes16 n)
  | .capx r => [r]
  | .wtch r m x => r :: (bytes16 m ++ [x])
  | .wtcd r => [r]
  | .stat r => [r]
  | .humr r => [r]
  | .rept x => [x]
  | .rset => []

/-- The frame that carries a request with a tag. -/
def Request.frame (tag : Byte) (q : Request) : Frame := { type := q.code, tag := tag, payload := q.payload }

/-- The reader field of a request that carries one (R1, R179 test 3). -/
def Request.readerField : Request → Option Byte
  | .idnt => none
  | .strt r _ _ _ => some r
  | .stop r => some r
  | .byps r _ => some r
  | .setw r _ => some r
  | .setr r _ => some r
  | .setc r => some r
  | .hold _ => none
  | .sync _ => none
  | .rels _ => none
  | .splm r _ => some r
  | .splc r _ => some r
  | .spll r => some r
  | .exca r _ _ => some r
  | .excr r _ => some r
  | .excl r => some r
  | .capa r _ _ _ => some r
  | .capr r _ _ _ => some r
  | .capx r => some r
  | .wtch r _ _ => some r
  | .wtcd r => some r
  | .stat r => some r
  | .humr r => some r
  | .rept _ => none
  | .rset => none

/-- What tests 1 and 2 of R179 make of a frame. -/
inductive Decoded where
  | unknown
  | badLength
  | request (q : Request)
deriving DecidableEq, Repr

/-- The writes of a SETW payload, when it is a whole number of writes. -/
def parseWrites : List Byte → Option (List FieldWrite)
  | [] => some []
  | i :: b0 :: b1 :: b2 :: b3 :: rest =>
    match parseWrites rest with
    | some ws => some ({ id := i, value := word32 b0 b1 b2 b3 } :: ws)
    | none => none
  | _ => none

/-- A SETW payload: 2 + 5n bytes with n from 1 to 128 in its second byte (R140, R179). -/
def parseSetw : List Byte → Decoded
  | r :: n :: rest =>
    match parseWrites rest with
    | some ws => if ws.length = n.toNat ∧ 1 ≤ n.toNat ∧ n.toNat ≤ 128 then .request (.setw r ws) else .badLength
    | none => .badLength
  | _ => .badLength

def parseEmpty (q : Request) : List Byte → Decoded
  | [] => .request q
  | _ => .badLength

def parse1 (f : Byte → Request) : List Byte → Decoded
  | [a] => .request (f a)
  | _ => .badLength

def parse2 (f : Byte → Byte → Request) : List Byte → Decoded
  | [a, b] => .request (f a b)
  | _ => .badLength

def parse1Word (f : Byte → BitVec 32 → Request) : List Byte → Decoded
  | [a, b0, b1, b2, b3] => .request (f a (word32 b0 b1 b2 b3))
  | _ => .badLength

/-- Tests 1 and 2 of R179: the request a type and a payload spell, or what is wrong with them. -/
def decodeRequest (type : Byte) (payload : List Byte) : Decoded :=
  match type.toNat with
  | 0x01 => parseEmpty .idnt payload
  | 0x02 => match payload with
    | [r, m, o, b0, b1, b2, b3] => .request (.strt r m o (word32 b0 b1 b2 b3))
    | _ => .badLength
  | 0x03 => parse1 .stop payload
  | 0x04 => parse2 .byps payload
  | 0x05 => parseSetw payload
  | 0x06 => parse2 .setr payload
  | 0x07 => parse1 .setc payload
  | 0x08 => parse1 .hold payload
  | 0x09 => parse1 .sync payload
  | 0x0A => parse1 .rels payload
  | 0x0B => parse1Word .splm payload
  | 0x0C => parse1Word .splc payload
  | 0x0D => parse1 .spll payload
  | 0x0E => match payload with
    | [r, b0, b1, b2, b3, c0, c1, c2, c3] => .request (.exca r (word32 b0 b1 b2 b3) (word32 c0 c1 c2 c3))
    | _ => .badLength
  | 0x0F => parse1Word .excr payload
  | 0x10 => parse1 .excl payload
  | 0x11 => match payload with
    | [r, k, b0, b1, m] => .request (.capa r k (word16 b0 b1) m)
    | _ => .badLength
  | 0x12 => match payload with
    | [r, l, b0, b1, c0, c1] => .request (.capr r l (word16 b0 b1) (word16 c0 c1))
    | _ => .badLength
  | 0x13 => parse1 .capx payload
  | 0x14 => match payload with
    | [r, b0, b1, m] => .request (.wtch r (word16 b0 b1) m)
    | _ => .badLength
  | 0x15 => parse1 .wtcd payload
  | 0x16 => parse1 .stat payload
  | 0x17 => parse1 .humr payload
  | 0x18 => parse1 .rept payload
  | 0x19 => parseEmpty .rset payload
  | _ => .unknown

/-- The length test of R179 on a request as a whole: only SETW's count can fail it (R140). -/
def Request.lengthOk : Request → Bool
  | .setw _ ws => 1 ≤ ws.length && ws.length ≤ 128
  | .idnt => true
  | .strt _ _ _ _ => true
  | .stop _ => true
  | .byps _ _ => true
  | .setr _ _ => true
  | .setc _ => true
  | .hold _ => true
  | .sync _ => true
  | .rels _ => true
  | .splm _ _ => true
  | .splc _ _ => true
  | .spll _ => true
  | .exca _ _ _ => true
  | .excr _ _ => true
  | .excl _ => true
  | .capa _ _ _ _ => true
  | .capr _ _ _ _ => true
  | .capx _ => true
  | .wtch _ _ _ => true
  | .wtcd _ => true
  | .stat _ => true
  | .humr _ => true
  | .rept _ => true
  | .rset => true

end Sys2Proof.Machine
end

