-- ==== Sys2Proof/Machine/Params.lean ====
section
/-! DEFINITION. Parameter sets (spec/08_parameter_sets.md): the field catalogue, SETW, SETR and SETC on the slots, and the
hold and sync-pending flags. -/

namespace Sys2Proof.Machine

/-! ## The field catalogue (R138, R139) -/

/-- Numeric fields are clamped into their range; enumerated fields take the listed numbers and no others. -/
inductive FieldKind where
  | numeric (lo hi : Int)
  | enumerated (values : List Int)
deriving DecidableEq, Repr

/-- The kind of the five fields of a hum slot, by the offset of the id from 32 + 8n. -/
def slotFieldKind : Nat → Option FieldKind
  | 0 => some (.enumerated [0, 1])
  | 1 => some (.enumerated [0, 1, 2])
  | 2 => some (.numeric 1 64)
  | 3 => some (.numeric 1 2147483647)
  | 4 => some (.numeric 8 20)
  | _ => none

/-- The kind of the reader-wide fields, ids 1 to 23. -/
def wideFieldKind : Nat → Option FieldKind
  | 1 => some (.enumerated [0, 1])
  | 2 => some (.numeric 32 1023)
  | 3 => some (.numeric 4 10)
  | 4 => some (.numeric 0 32)
  | 5 => some (.numeric 0 16)
  | 6 => some (.numeric 8 256)
  | 7 => some (.numeric 0 32)
  | 8 => some (.numeric 256 65535)
  | 9 => some (.numeric 0 128)
  | 10 => some (.numeric 1 128)
  | 11 => some (.numeric (-64) 63)
  | 12 => some (.numeric 16 65535)
  | 13 => some (.numeric 16 65535)
  | 14 => some (.numeric 256 1048560)
  | 15 => some (.numeric 1 255)
  | 16 => some (.numeric 4 255)
  | 17 => some (.enumerated [50, 60])
  | 18 => some (.numeric 1000 3000)
  | 19 => some (.enumerated [0, 1])
  | 20 => some (.numeric 1 1048576)
  | 21 => some (.numeric 16 64)
  | 22 => some (.numeric 0 31)
  | 23 => some (.numeric 1 8)
  | _ => none

/-- The hum slot whose block of ids holds an id: 32 + 8n to 39 + 8n (R138). -/
def slotOfField (id : Nat) : Option (Fin 12) :=
  if h : 32 ≤ id ∧ (id - 32) / 8 < 12 then some ⟨(id - 32) / 8, h.2⟩ else none

/-- The kind of the field an id names, if it names one (R138). -/
def fieldKind (id : Nat) : Option FieldKind :=
  match slotOfField id with
  | some _ => slotFieldKind ((id - 32) % 8)
  | none => wideFieldKind id

/-- The 83 field ids in ascending order (R138). -/
def fieldIds : List Nat := (List.range 128).filter fun id => (fieldKind id).isSome

def boolInt (b : Bool) : Int := if b then 1 else 0

def HumSource.number : HumSource → Int
  | .frame => 0
  | .mains => 1
  | .fixed => 2

def sourceOf (v : Int) : HumSource :=
  if v = 1 then .mains else if v = 2 then .fixed else .frame

def HumConfig.get (c : HumConfig) : Nat → Int
  | 0 => boolInt c.enabled
  | 1 => c.source.number
  | 2 => c.order
  | 3 => c.fixedInc
  | 4 => c.shift
  | _ => 0

def HumConfig.put (c : HumConfig) (k : Nat) (v : Int) : HumConfig :=
  match k with
  | 0 => { c with enabled := v == 1 }
  | 1 => { c with source := sourceOf v }
  | 2 => { c with order := v.toNat }
  | 3 => { c with fixedInc := v.toNat }
  | 4 => { c with shift := v.toNat }
  | _ => c

def ParamSet.getWide (p : ParamSet) : Nat → Int
  | 1 => boolInt p.detectorEnable
  | 2 => p.threshold
  | 3 => p.envelopeRate
  | 4 => p.mergeGap
  | 5 => p.guard
  | 6 => p.lmax
  | 7 => p.linearLimit
  | 8 => p.stuckCount
  | 9 => p.splicePre
  | 10 => p.splicePost
  | 11 => p.spliceOffset
  | 12 => p.pmin
  | 13 => p.pmax
  | 14 => p.pn
  | 15 => p.holdover
  | 16 => p.monitorPeriod
  | 17 => p.mains
  | 18 => p.nominalRate
  | 19 => boolInt p.hissEnable
  | 20 => p.floor
  | 21 => p.margin
  | 22 => p.minStep
  | 23 => p.upRate
  | _ => 0

def ParamSet.putWide (p : ParamSet) (id : Nat) (v : Int) : ParamSet :=
  match id with
  | 1 => { p with detectorEnable := v == 1 }
  | 2 => { p with threshold := v.toNat }
  | 3 => { p with envelopeRate := v.toNat }
  | 4 => { p with mergeGap := v.toNat }
  | 5 => { p with guard := v.toNat }
  | 6 => { p with lmax := v.toNat }
  | 7 => { p with linearLimit := v.toNat }
  | 8 => { p with stuckCount := v.toNat }
  | 9 => { p with splicePre := v.toNat }
  | 10 => { p with splicePost := v.toNat }
  | 11 => { p with spliceOffset := v }
  | 12 => { p with pmin := v.toNat }
  | 13 => { p with pmax := v.toNat }
  | 14 => { p with pn := v.toNat }
  | 15 => { p with holdover := v.toNat }
  | 16 => { p with monitorPeriod := v.toNat }
  | 17 => { p with mains := v.toNat }
  | 18 => { p with nominalRate := v.toNat }
  | 19 => { p with hissEnable := v == 1 }
  | 20 => { p with floor := v.toNat }
  | 21 => { p with margin := v.toNat }
  | 22 => { p with minStep := v.toNat }
  | 23 => { p with upRate := v.toNat }
  | _ => p

/-- The number a field holds, as the link carries it (R139). -/
def ParamSet.get (p : ParamSet) (id : Nat) : Int :=
  match slotOfField id with
  | some n => p.hum[n].get ((id - 32) % 8)
  | none => p.getWide id

/-- A set with one field at a value that lies in its range or among its values. -/
def ParamSet.put (p : ParamSet) (id : Nat) (v : Int) : ParamSet :=
  match slotOfField id with
  | some n => { p with hum := p.hum.set n.val (p.hum[n].put ((id - 32) % 8) v) n.isLt }
  | none => p.putWide id v

/-! ## SETW (R140, R141) -/

/-- A write names a field, and a value of it where the field is enumerated (R140). -/
def writeValid (w : FieldWrite) : Bool :=
  match fieldKind w.id.toNat with
  | some (.numeric _ _) => true
  | some (.enumerated values) => values.contains w.value.toInt
  | none => false

/-- A write to a numeric field outside its range is clamped (R141). -/
def writeClamps (w : FieldWrite) : Bool :=
  match fieldKind w.id.toNat with
  | some (.numeric lo hi) => w.value.toInt < lo || hi < w.value.toInt
  | some (.enumerated _) => false
  | none => false

/-- The value a write gives its field: clamped into the range of a numeric field, as written otherwise (R141). -/
def writtenValue (w : FieldWrite) : Int :=
  match fieldKind w.id.toNat with
  | some (.numeric lo hi) => clampInt lo hi w.value.toInt
  | some (.enumerated _) => w.value.toInt
  | none => w.value.toInt

/-- One write into a set. -/
def ParamSet.write (p : ParamSet) (w : FieldWrite) : ParamSet := p.put w.id.toNat (writtenValue w)

/-- The writes of a list, one after another; a field written twice keeps the last (R141). -/
def ParamSet.writeAll (p : ParamSet) (ws : List FieldWrite) : ParamSet := ws.foldl ParamSet.write p

/-! ## SETC (R143 to R145) -/

/-- The tests of R143 in their order: the field id of the first that fails, or none. -/
def ParamSet.inconsistency (p : ParamSet) : Option Nat :=
  if ¬ p.pmin < p.pmax then some 13
  else if ¬ (16 * p.pmin ≤ p.pn ∧ p.pn ≤ 16 * p.pmax) then some 14
  else if p.lmax < p.linearLimit then some 7
  else if 256 < p.splicePre + p.splicePost then some 10
  else ((List.finRange 12).find? fun i =>
    p.hum[i].enabled && p.hum[i].source == .fixed && 2 ^ 31 ≤ p.hum[i].fixedInc).map fun i => 35 + 8 * i.val

/-- The commit of R144 and R145: the EDIT slot becomes STAGED, and the third slot becomes EDIT with a copy of it. -/
def Params.commit (p : Params) (edit third : SlotId) : Params :=
  (p.onSlot edit fun x => { x with role := .staged }).onSlot third fun _ =>
    { role := .edit, set := (p.slot edit).set }

/-- The third slot: the one that is STAGED, or else the one that is SPARE (R137). -/
def Params.third (p : Params) : Option SlotId :=
  match p.holder .staged with
  | some i => some i
  | none => p.holder .spare

/-! ## Apply (R147, R150, R151) -/

/-- A frame event applies the STAGED set when the hold flag is clear or the sync-pending flag is set (R147, R150). -/
def Params.releases (p : Params) : Bool :=
  (p.holder .staged).isSome && (!p.hold || p.syncPending)

/-- The change of roles at an apply: STAGED becomes ACTIVE, ACTIVE becomes SPARE, sync-pending is cleared (R150). -/
def Params.rotate (p : Params) : Params :=
  match p.holder .staged, p.holder .active with
  | some st, some ac =>
    { (p.onSlot st fun x => { x with role := .active }).onSlot ac fun x => { x with role := .spare } with
      syncPending := false }
  | some _, none => p
  | none, _ => p

/-- The slot number an APLD report names: the slot now ACTIVE (R152). -/
def Params.activeSlot (p : Params) : SlotId := (p.holder .active).getD .slot0

/-! ## The fields' ranges (R138), which every slot keeps -/

def FieldKind.admits (k : FieldKind) (v : Int) : Bool :=
  match k with
  | .numeric lo hi => lo ≤ v && v ≤ hi
  | .enumerated values => values.contains v

/-- Every field of a set lies in its range or among its values. -/
def ParamSet.inRange (p : ParamSet) : Bool :=
  fieldIds.all fun id => match fieldKind id with
    | some k => k.admits (p.get id)
    | none => true

end Sys2Proof.Machine
end

