-- ==== Sys2Proof/Machine/Table.lean ====
section
/-! DEFINITION. The defect table and repair (spec/04_the_defect_table_and_repair.md) and the capture slot's part in a commit
(R165, R166): filing, commit timing, the log gate, method and outcome, the repair arithmetic, the commit. -/

namespace Sys2Proof.Machine

/-! ## Entries and spans (R63, R64) -/

def LaneMask.has (m : LaneMask) (l : Lane) : Bool :=
  match m with
  | .only k => k == l
  | .both => true

/-- N, the span length. -/
def Defect.length (d : Defect) : Nat := d.spanEnd + 1 - d.spanStart

/-- b, the index after the span's last (R64). -/
def Defect.after (d : Defect) : Nat := d.spanEnd + 1

/-- The span shares an index with lo..hi. -/
def Defect.shares (d : Defect) (lo hi : Nat) : Bool := d.spanStart ≤ hi && lo ≤ d.spanEnd

/-- An uncommitted entry: OPEN or CLOSED. -/
def Defect.uncommitted (d : Defect) : Bool := d.state != .committed

/-- The entry of a lane's current run: its OPEN CLICK entry (R40, R47). -/
def isRunOf (l : Lane) (d : Defect) : Bool := d.kind == .click && d.state == .opened && d.lanes == .only l

/-- File an entry in the order of span start, after the entries that already hold that span start (R63). -/
def fileDefect (t : List Defect) (d : Defect) : List Defect :=
  t.takeWhile (fun x => x.spanStart ≤ d.spanStart) ++ d :: t.dropWhile (fun x => x.spanStart ≤ d.spanStart)

/-- The post-context of an entry is complete when index span end + N has entered, n samples having entered (R69). -/
def Defect.complete (d : Defect) (n : Nat) : Bool := d.spanEnd + d.length < n

/-- Index b of an entry has entered (R70). -/
def Defect.afterEntered (d : Defect) (n : Nat) : Bool := d.after < n

/-- The window deadline of an entry has been reached: index span start + 1023 has entered (R71). -/
def Defect.deadlineReached (d : Defect) (n : Nat) : Bool := d.spanStart + 1023 < n

/-- A COMMITTED entry whose span end leaves the window: index span end + 1024 has entered (R67). -/
def Defect.leaves (d : Defect) (n : Nat) : Bool := d.state == .committed && d.spanEnd + 1024 < n

/-! ## The twin conditions and the choice of method (R72, R75, R76) -/

/-- The twin conditions of R72 for an entry, as the reader and its table stand. -/
def Reader.twinConditions (rd : Reader) (d : Defect) : Bool :=
  match d.lanes with
  | .both => false
  | .only l =>
    rd.state == .running && rd.laneMode == .twin && d.kind == .click && !(rd.lane (twinOf l)).stuck &&
      !(rd.lane (twinOf l)).markedIn rd.entered d.spanStart d.spanEnd &&
      !rd.table.any fun x => x.lanes.has (twinOf l) && x.shares d.spanStart d.spanEnd

/-- The pre-context is available: N samples of the run entered before the span, and the first of them is in the
window (R76). -/
def Reader.preContext (rd : Reader) (d : Defect) : Bool :=
  d.length ≤ d.spanStart && inWindow rd.entered (d.spanStart - d.length)

/-- The frame count lies within a range of the exclusion list (R75, R101). -/
def Reader.excluded (rd : Reader) : Bool :=
  rd.exclusions.any fun x => x.first ≤ rd.monitor.frameCount && rd.monitor.frameCount ≤ x.last

/-- The method or outcome of a commit past the log gate: the first condition of R75 that applies. -/
def Reader.chooseMethod (rd : Reader) (d : Defect) (complete : Bool) : Method :=
  if rd.state == .bypassed then .bypassed
  else if d.kind == .click && rd.excluded then .vetoed
  else if d.kind == .click && rd.active.lmax < d.length then .passed
  else if rd.twinConditions d then .twin
  else if d.length ≤ rd.active.linearLimit || !complete || !rd.preContext d then .linear
  else .fill

/-! ## Repair arithmetic (R84 to R87) -/

/-- LINEAR: p + R((q - p)(i + 1), N + 1) (R85). -/
def linearValue (p q : Int) (length i : Nat) : Int := p + roundQ ((q - p) * (i + 1)) (length + 1)

/-- FILL: R(f (N - i) + g (i + 1), N + 1) (R86). -/
def fillValue (f g : Int) (length i : Nat) : Int := roundQ (f * ((length : Int) - i) + g * (i + 1)) (length + 1)

/-- The sample q after the span, that of index b (R85). -/
def LaneState.afterSpan (ln : LaneState) (n : Nat) (d : Defect) : Int := ln.value n d.after

/-- The sample p before the span, or q where index a - 1 is not in the window or lies before the start point (R85). -/
def LaneState.beforeSpan (ln : LaneState) (n : Nat) (d : Defect) : Int :=
  if 1 ≤ d.spanStart && inWindow n (d.spanStart - 1) then ln.value n (d.spanStart - 1) else ln.afterSpan n d

/-- The replacement of the i-th sample of a span on a lane, from the windows as they stand (R85 to R87). The methods
that replace nothing leave the sample. -/
def Reader.replacement (rd : Reader) (l : Lane) (d : Defect) (m : Method) (i : Nat) : Int :=
  let ln := rd.lane l
  let n := rd.entered
  match m with
  | .fill => fillValue (ln.value n (d.spanStart - d.length + i)) (ln.value n (d.after + i)) d.length i
  | .linear => linearValue (ln.beforeSpan n d) (ln.afterSpan n d) d.length i
  | .twin => (rd.lane (twinOf l)).value n (d.spanStart + i)
  | .passed => ln.value n (d.spanStart + i)
  | .vetoed => ln.value n (d.spanStart + i)
  | .bypassed => ln.value n (d.spanStart + i)
  | .missed => ln.value n (d.spanStart + i)
  | .unrecorded => ln.value n (d.spanStart + i)

/-- The methods that replace samples (R74). -/
def Method.replaces : Method → Bool
  | .fill => true
  | .linear => true
  | .twin => true
  | .passed => false
  | .vetoed => false
  | .bypassed => false
  | .missed => false
  | .unrecorded => false

/-- Write values over the positions of indices lo..hi of a window, n samples having entered; marks stay. The value of
index j is that of y (j - lo). -/
def writeSpan (w : List Cell) (n lo hi : Nat) (y : Nat → Int) : List Cell :=
  w.mapIdx fun p c =>
    if p < n ∧ lo ≤ n - 1 - p ∧ n - 1 - p ≤ hi then { c with sample := sampleOf (y (n - 1 - p - lo)) } else c

/-- One lane's window after the repair of an entry, computed from the windows of rd (R82 step 5). -/
def Reader.repairedWindow (rd : Reader) (l : Lane) (d : Defect) (m : Method) : List Cell :=
  if m.replaces && d.lanes.has l then
    writeSpan (rd.lane l).window rd.entered d.spanStart d.spanEnd (rd.replacement l d m)
  else (rd.lane l).window

/-- The repair: every replacement is computed before any is written (R82 step 5). -/
def Reader.repair (rd : Reader) (d : Defect) (m : Method) : Reader :=
  { rd with
    lane0 := { rd.lane0 with window := rd.repairedWindow .lane0 d m }
    lane1 := { rd.lane1 with window := rd.repairedWindow .lane1 d m } }

/-! ## The capture slot (R165, R166) -/

/-- A defect qualifies for capture (R165). -/
def Qualifier.admits (q : Qualifier) (d : Defect) : Bool :=
  (match d.kind with
    | .click => q.clicks && q.minPeak ≤ d.peak
    | .splice => q.splices) &&
  ((q.lane0 && d.lanes.has .lane0) || (q.lane1 && d.lanes.has .lane1))

/-- The first index of the copy: span start - 32, no earlier than the oldest sample of the run in the window (R166). -/
def captureFirst (n : Nat) (d : Defect) : Nat := max (d.spanStart - Config.captureMargin) (oldestIndex n)

/-- How many indices are kept: up to span end + 32 and to the sample that entered last, at most 320 (R166). -/
def captureCount (n : Nat) (d : Defect) : Nat :=
  min (min (d.spanEnd + Config.captureMargin + 1) n - captureFirst n d) Config.captureSamples

/-- The copy of a lane's window values, from the first index on, over the copy held before (R166, log entry 20). -/
def LaneState.copyValues (ln : LaneState) (n first count : Nat) (old : List Sample) : List Sample :=
  (List.range count).map (fun i => sampleOf (ln.value n (first + i))) ++ old.drop count

/-- The capture of a qualifying defect (R166): the copy, the descriptor, the toggle, HELD. -/
def Reader.capturing (rd : Reader) (d : Defect) (number : Nat) : Capture :=
  let first := captureFirst rd.entered d
  let count := captureCount rd.entered d
  { rd.capture with
    state := .held
    toggle := !rd.capture.toggle
    descriptor := { number := number, kind := d.kind, lanes := d.lanes.code, first := index48 first, count := count }
    copy0 := if d.lanes.has .lane0 then rd.lane0.copyValues rd.entered first count rd.capture.copy0 else rd.capture.copy0
    copy1 := if d.lanes.has .lane1 then rd.lane1.copyValues rd.entered first count rd.capture.copy1 else rd.capture.copy1 }

/-- Step 3 of a commit: the slot is offered the entry (R82, R165, R166). ARMED, it captures a qualifying defect and
offers its CAPD report; HELD, it sets its missed flag for one; DISARMED, it does nothing. The Bool says whether a copy
was taken. -/
def offerCapture (r : ReaderId) (d : Defect) (number : Nat) (s : State) : State × Bool :=
  let rd := s.rd r
  match rd.capture.state with
  | .disarmed => (s, false)
  | .held =>
    if rd.capture.qualifier.admits d then
      (s.onReader r fun x => { x with capture := { x.capture with missed := true } }, false)
    else (s, false)
  | .armed =>
    if rd.capture.qualifier.admits d then
      let c := rd.capturing d number
      ((s.onReader r fun x => { x with capture := c }).offer r
        (.capd number c.toggle c.descriptor.lanes c.descriptor.first c.descriptor.count), true)
    else (s, false)

/-! ## The commit (R78, R79, R82, R83) -/

/-- The defect number counter's next value, from 2^32 - 1 to 1 (R83). -/
def numberAfter (n : Nat) : Nat := if 2 ^ 32 - 1 ≤ n then 1 else n + 1

/-- The record granted a place is queued with the gap flag, which is then cleared (R81, R82 step 4). -/
def queueDfct (r : ReaderId) (f : DfctFields) (s : State) : State :=
  ((s.onQueue (·.fill { reader := r, lost := false, body := .dfct { f with gapBefore := (s.rd r).gap } })).onReader r
    fun x => { x with gap := false })

/-- The defect number counter gives its value and moves on (R82 step 2). -/
def takeNumber (r : ReaderId) (s : State) : State := s.onReader r fun x => { x with nextNumber := numberAfter x.nextNumber }

/-- The committed-defect total increases, holding at 2^32 - 1 (R83). -/
def Reader.countCommitted (rd : Reader) : Reader := { rd with committedTotal := holdingSucc (2 ^ 32 - 1) rd.committedTotal }

/-- The DFCT fields of a committed entry (R89); the gap flag is set as the record is queued. -/
def Defect.fields (d : Defect) (m : Method) (number frameCount : Nat) (captured : Bool) : DfctFields :=
  { lanes := d.lanes, kind := d.kind, method := m, number := number, spanStart := index48 d.spanStart, length := d.length,
    peak := d.peak, frameCount := frameCount, gapBefore := false, captured := captured }

/-- Write the entry at position k of the table. -/
def Reader.setEntry (rd : Reader) (k : Nat) (d : Defect) : Reader := { rd with table := rd.table.set k d }

/-- A commit past the log gate, steps 1 to 6 of R82, of the entry d at position k of the table. -/
def commitRecorded (r : ReaderId) (k : Nat) (d : Defect) (complete : Bool) (s : State) : State :=
  let m := (s.rd r).chooseMethod d complete
  let number := (s.rd r).nextNumber
  let s1 := takeNumber r (s.onQueue ReportQueue.hold)
  let s2 := offerCapture r d number s1
  let s3 := queueDfct r (d.fields m number (s2.1.rd r).monitor.frameCount s2.2) s2.1
  s3.onReader r fun x =>
    ((x.repair d m).countCommitted).setEntry k
      { d with state := .committed, method := some m, number := some number, captured := s2.2 }

/-- A commit that the log gate refuses (R79). -/
def commitUnrecorded (r : ReaderId) (k : Nat) (d : Defect) (s : State) : State :=
  s.onReader r fun x => x.countUnrecorded.setEntry k { d with state := .committed, method := some .unrecorded }

/-- The commit of the entry at position k of the table (R78). -/
def commitAt (r : ReaderId) (k : Nat) (complete : Bool) (s : State) : State :=
  match (s.rd r).table[k]? with
  | none => s
  | some d => if s.queue.grants then commitRecorded r k d complete s else commitUnrecorded r k d s

/-- A MISSED splice reported through the log gate: lanes 0 and 1, length 0, with t as its span start (R90). -/
def reportMissed (r : ReaderId) (t : Nat) (s : State) : State :=
  if s.queue.grants then
    let s1 := takeNumber r (s.onQueue ReportQueue.hold)
    (queueDfct r
      { lanes := .both, kind := .splice, method := .missed, number := (s.rd r).nextNumber, spanStart := index48 t,
        length := 0, peak := 0, frameCount := (s.rd r).monitor.frameCount, gapBefore := false, captured := false }
      s1).onReader r Reader.countCommitted
  else s.onReader r Reader.countUnrecorded

/-- A commit through step 6 of R82, and then the watches where it changed a condition: the ALRT that a capture brings
stands behind the commit's own DFCT record and before the next commit's (R186). -/
def commitWatched (r : ReaderId) (k : Nat) (complete : Bool) (s : State) : State :=
  State.evaluateChange s (commitAt r k complete s)

/-! ## Commits in table order (R68, R70, R73) -/

/-- The positions of the table at which a test holds, in table order. -/
def positions (t : List Defect) (test : Defect → Bool) : List Nat :=
  (List.range t.length).filter fun k => match t[k]? with
    | some d => test d
    | none => false

/-- Commit the entries at some positions one after another, each with its post-context as it stands and its own
evaluation of the watches (R73, R186). -/
def commitAll (r : ReaderId) (ks : List Nat) (s : State) : State :=
  ks.foldl (fun s k =>
    let complete := match (s.rd r).table[k]? with
      | some d => d.complete (s.rd r).entered
      | none => false
    commitWatched r k complete s) s

/-- Change the entries of the table at which a test holds. -/
def Reader.mapTable (rd : Reader) (test : Defect → Bool) (f : Defect → Defect) : Reader :=
  { rd with table := rd.table.map fun d => if test d then f d else d }

/-- A new entry cuts the CLOSED entries it reaches (R70): those whose index b has entered commit at once (at a splice's
opening, and before a run that closes overlong at once, also those whose post-context is complete, log entries 16 and 38),
and the others take their cut mark. The entries that commit along, at the same entry event, and stand before one that is
cut commit with it, in table order (R73, log entry 38). -/
def cutEntries (r : ReaderId) (reached along : Defect → Bool) (s : State) : State :=
  let n := (s.rd r).entered
  let s1 := s.onReader r fun x => x.mapTable (fun d => d.state == .closed && reached d && !d.afterEntered n)
    fun d => { d with cut := true }
  let cutNow := fun d : Defect => d.state == .closed && reached d && d.afterEntered n
  let t := (s1.rd r).table
  let cuts := positions t cutNow
  commitAll r ((positions t fun d => cutNow d || along d).filter fun k => cuts.any fun j => k ≤ j) s1

/-- A CLOSED entry is due to commit by moment (b) (R69). -/
def Defect.dueComplete (d : Defect) (n : Nat) : Bool := d.state == .closed && d.complete n

/-- A CLOSED entry with its cut mark set is due to commit as index b has entered (R70). -/
def Defect.dueCut (d : Defect) (n : Nat) : Bool := d.state == .closed && d.cut && d.afterEntered n

/-- A CLOSED entry is due to commit at its window deadline (R71). -/
def Defect.dueDeadline (d : Defect) (n : Nat) : Bool := d.state == .closed && d.deadlineReached n

/-- A CLOSED entry commits at the entry event by moment (b), by moment (d), or as its index b enters (R69 to R71). -/
def Defect.dueAtEntry (d : Defect) (n : Nat) : Bool := d.dueDeadline n || d.dueComplete n || d.dueCut n

/-- A run that opens on a lane at the newest entry cuts the entry at once: it is CLOSED on the lane, its index b has
entered and its post-context is not complete (R70). -/
def Defect.cutByRun (d : Defect) (l : Lane) (n : Nat) : Bool :=
  d.state == .closed && d.lanes.has l && !d.complete n && d.afterEntered n

/-- The removal of the COMMITTED entries whose span end leaves the window (R67). -/
def Reader.removeLeft (rd : Reader) : Reader := { rd with table := rd.table.filter fun d => !d.leaves rd.entered }

/-! ## Detector state that ends with an entry -/

/-- A lane's run ends: IDLE, quiet count 0, no run record (R50, R57, R61, R71). -/
def Detector.idle (d : Detector) : Detector := { d with run := .idle, quiet := 0, record := none }

def Reader.idleLane (rd : Reader) (l : Lane) : Reader :=
  rd.onLane l fun ln => { ln with detector := ln.detector.idle }

/-- An OPEN entry at its window deadline is closed: its span end becomes the lesser of its span end and the index before
the sample that has just entered, and its run, if it has one, ends (R71). -/
def Reader.closeAtDeadline (rd : Reader) : Reader :=
  let hit := fun d : Defect => d.state == .opened && d.deadlineReached rd.entered
  let ends := fun l : Lane => rd.table.any fun d => hit d && isRunOf l d
  let rd1 := rd.mapTable hit fun d => { d with state := .closed, spanEnd := min d.spanEnd (rd.entered - 2) }
  let rd2 := if ends .lane0 then rd1.idleLane .lane0 else rd1
  if ends .lane1 then rd2.idleLane .lane1 else rd2

/-- A SPLICE entry is due to close: the sample of its span end has entered (R100). -/
def Defect.dueSpliceClose (d : Defect) (n : Nat) : Bool := d.state == .opened && d.kind == .splice && d.spanEnd < n

/-- SPLICE_CLOSE: a SPLICE entry becomes CLOSED as the sample of its span end enters (R100). -/
def Reader.closeSplices (rd : Reader) : Reader :=
  rd.mapTable (fun d => d.dueSpliceClose rd.entered) fun d => { d with state := .closed }

/-- The table's work at an entry event after the judgements: OPEN entries at their deadline close (R71), splices whose
span end has entered close (R100), and the CLOSED entries that are due commit in table order (R68, R73). An entry that is due
does not wait for one of an earlier span that is not: a splice may so take the smaller number (DESIGN CHOICE, R83, log
entry 41). -/
def tableAtEntry (r : ReaderId) (s : State) : State :=
  let s1 := s.onReader r fun x => x.closeAtDeadline.closeSplices
  commitAll r (positions (s1.rd r).table fun d => d.dueAtEntry (s1.rd r).entered) s1

/-! ## Closing a run and the merge (R50, R51, R54, R55) -/

/-- The tentative end of a run: the last hot index plus g, before the span start of any entry on the lane that starts
after the last hot index (R49). -/
def tentativeEnd (t : List Defect) (l : Lane) (lastHot guard : Nat) : Nat :=
  t.foldl (fun e d => if d.lanes.has l && lastHot < d.spanStart then min e (d.spanStart - 1) else e) (lastHot + guard)

/-- A CLOSED CLICK entry of the twin lane alone that overlaps a closing entry of lane l (R54). -/
def mergesWith (l : Lane) (c d : Defect) : Bool :=
  d.state == .closed && d.kind == .click && d.lanes == .only (twinOf l) && d.shares c.spanStart c.spanEnd

/-- The entry that a closing entry and its twin entries become (R54). -/
def mergedEntry (c : Defect) (mates : List Defect) : Defect :=
  { c with
    lanes := .both
    state := .closed
    spanStart := mates.foldl (fun x d => min x d.spanStart) c.spanStart
    spanEnd := mates.foldl (fun x d => max x d.spanEnd) c.spanEnd
    peak := mates.foldl (fun x d => max x d.peak) c.peak
    cut := mates.foldl (fun x d => x || d.cut) c.cut }

/-- The merged entry of a close on lane l among the other entries: a run of the twin that stands OPEN behind it has opened at
the same entry event, since an earlier opening would have committed the twin's CLOSED entries, and cuts it as it would have
cut it had the close been taken first (R70, R83, log entry 38). -/
def Defect.cutBehind (m : Defect) (l : Lane) (others : List Defect) : Defect :=
  { m with cut := m.cut || others.any fun d => isRunOf (twinOf l) d && m.spanEnd < d.spanStart }

/-- The merge is allowed: a length within Lmax, and no overlap with another entry of the table on either lane (R55). -/
def mergeAllowed (lmax : Nat) (m : Defect) (others : List Defect) : Bool :=
  m.length ≤ lmax && !others.any fun d => d.shares m.spanStart m.spanEnd

/-- The close of a lane's run with a final span end: the entry is CLOSED, the run ends, the merge is decided (R50, R54,
R55), and a single-lane entry for which the twin conditions hold commits at once, by moment (a) (R72). -/
def closeRun (r : ReaderId) (l : Lane) (finalEnd : Nat) (s : State) : State :=
  let rd := s.rd r
  let k := rd.table.findIdx (isRunOf l)
  let idled := s.onReader r fun x => x.idleLane l
  match rd.table[k]? with
  | none => idled
  | some d =>
    let c := { d with spanEnd := finalEnd, state := .closed }
    let rest := rd.table.eraseIdx k
    let mates := rest.filter (mergesWith l c)
    let others := rest.filter fun x => !mergesWith l c x
    let m := (mergedEntry c mates).cutBehind l others
    if !mates.isEmpty && mergeAllowed rd.active.lmax m others then
      idled.onReader r fun x => { x with table := fileDefect others m }
    else
      let s1 := idled.onReader r fun x => x.setEntry k c
      if (s1.rd r).twinConditions c then commitWatched r k false s1 else s1

/-- An overlong close: the entry's span becomes Lmax + 1 long, it is CLOSED and commits at once, and the lane enters
CATCHUP (R51, R59). -/
def closeOverlong (r : ReaderId) (l : Lane) (s : State) : State :=
  let rd := s.rd r
  let k := rd.table.findIdx (isRunOf l)
  let caught := s.onReader r fun x => x.onLane l fun ln =>
    { ln with detector := { ln.detector.idle with run := .catchup } }
  match rd.table[k]? with
  | none => caught
  | some d =>
    commitWatched r k false (caught.onReader r fun x =>
      x.setEntry k { d with spanEnd := d.spanStart + rd.active.lmax, state := .closed })

/-- The lanes in the order in which their runs' entries stand in the table (R73, log entry 19). -/
def lanesByTable (t : List Defect) : List Lane :=
  if t.findIdx (isRunOf .lane1) < t.findIdx (isRunOf .lane0) then [.lane1, .lane0] else [.lane0, .lane1]

end Sys2Proof.Machine
end

