-- ==== Sys2Proof/Machine/Detector.lean ====
section
/-! DEFINITION. Click detection (spec/03_click_detection.md): the second difference, the envelope, the run states, and what
an apply, bypass, stop and start do to a detector. -/

namespace Sys2Proof.Machine

/-! ## What is measured (R42 to R44) -/

/-- The magnitude of the second difference x[n] - 2 x[n-1] + x[n-2] (R42). -/
def Detector.difference (d : Detector) (x : Sample) : Nat := (x.toInt - 2 * d.prev1.toInt + d.prev2.toInt).natAbs

/-- Hot: |d| × 16 > T × max(E, 16) (R42). -/
def isHot (threshold envelope mag : Nat) : Bool := threshold * max envelope 16 < mag * 16

/-- What a hot sample contributes to a peak ratio: floor(|d| × 16 / max(E, 16)), held at 65 535 (R44). -/
def peakRatio (envelope mag : Nat) : Nat := min (mag * 16 / max envelope 16) 65535

/-- The envelope moves towards |d| by the fraction 2^-k, and not below 16 (R43). -/
def envelopeAfter (rate envelope mag : Nat) : Nat :=
  max 16 ((envelope : Int) + divPow2 ((mag : Int) - envelope) rate).toNat

/-- The entering sample becomes the more recent previous sample (R41). -/
def Detector.shift (d : Detector) (x : Sample) : Detector := { d with prev1 := x, prev2 := d.prev1 }

/-- The sample of index e is covered: it lies in the span of an entry on its lane other than its own run's (R45). -/
def Reader.covered (rd : Reader) (l : Lane) (e : Nat) : Bool :=
  rd.table.any fun d => d.lanes.has l && d.shares e e && !isRunOf l d

def State.onDetector (s : State) (r : ReaderId) (l : Lane) (f : Detector → Detector) : State :=
  s.onReader r fun x => x.onLane l fun ln => { ln with detector := f ln.detector }

def State.detector (s : State) (r : ReaderId) (l : Lane) : Detector := ((s.rd r).lane l).detector

/-! ## Runs (R47 to R51) -/

/-- The span start of a run that opens at index e: e - g, after the end of every entry on the lane that ends before e,
and no earlier than the oldest sample of the run in the window (R47). -/
def openingStart (t : List Defect) (l : Lane) (e guard n : Nat) : Nat :=
  t.foldl (fun x d => if d.lanes.has l && d.spanEnd < e then max x d.after else x) (max (e - guard) (oldestIndex n))

/-- The lane's run is longer than Lmax (R49, R51). -/
def Reader.runTooLong (rd : Reader) (l : Lane) : Bool :=
  match rd.table.find? (isRunOf l) with
  | some d => rd.active.lmax < d.length
  | none => false

/-- The span end and the peak ratio of a lane's run while it is OPEN (R49). -/
def Reader.growRun (rd : Reader) (l : Lane) (lastHot ratio : Nat) : Reader :=
  rd.mapTable (isRunOf l) fun d =>
    { d with spanEnd := tentativeEnd rd.table l lastHot rd.active.guard, peak := max d.peak ratio }

/-- The entry that a run takes as it opens at index e (R47). -/
def Reader.openedEntry (rd : Reader) (l : Lane) (e ratio : Nat) : Defect :=
  { lanes := .only l, kind := .click, state := .opened
    spanStart := openingStart rd.table l e rd.active.guard rd.entered
    spanEnd := tentativeEnd rd.table l e rd.active.guard
    peak := ratio, cut := false, method := none, number := none, captured := false }

/-- The span that a run opening at index e takes exceeds Lmax, so that it closes overlong at once (R51). -/
def Reader.opensOverlong (rd : Reader) (l : Lane) (e ratio : Nat) : Bool := rd.active.lmax < (rd.openedEntry l e ratio).length

/-- A run opens at index e: the CLOSED entries of the lane that it cuts commit first (R70), the entry is filed, and it
closes overlong at once where its span exceeds Lmax (R47, R51). One whose post-context is complete is not cut (R69); where
the run closes overlong at once it commits, by moment (b), before the run's own commit, so that defect numbers rise with
span start on the lane (R83). Before an entry that commits here commit the entries that stand before it and commit at the
same entry event, those that a run of the twin cuts at it among them where twinOpens says so (R73, log entry 38). A splice that stands OPEN behind the run is neither cut
nor held back, and may commit before the run with the smaller number (DESIGN CHOICE, R83, log entry 41). -/
def openRun (r : ReaderId) (l : Lane) (e ratio : Nat) (twinOpens : Bool) (s : State) : State :=
  let n := (s.rd r).entered
  let long := (s.rd r).opensOverlong l e ratio
  let s1 := cutEntries r (fun d => d.lanes.has l && (long || !d.complete n))
    (fun d => d.dueAtEntry n || (twinOpens && d.cutByRun (twinOf l) n)) s
  let s2 := s1.onReader r fun x => { x with table := fileDefect x.table (x.openedEntry l e ratio) }
  let s3 := s2.onDetector r l fun d => { d with run := .run, quiet := 0, record := some { firstHot := e, lastHot := e } }
  if (s3.rd r).runTooLong l then closeOverlong r l s3 else s3

/-- A hot sample finds the table full: the lane saturates, and the stretch counts as unrecorded (R48). -/
def saturate (r : ReaderId) (l : Lane) (s : State) : State :=
  (s.onReader r Reader.countUnrecorded).onDetector r l fun d => { d with run := .saturated, quiet := 0 }

/-- A hot sample of index e extends the lane's run, which closes overlong where its span exceeds Lmax (R49, R51). -/
def extendRun (r : ReaderId) (l : Lane) (e ratio : Nat) (s : State) : State :=
  let s1 := s.onDetector r l fun d =>
    { d with quiet := 0, record := d.record.map fun x => { x with lastHot := e } }
  let s2 := s1.onReader r fun x => x.growRun l e ratio
  if (s2.rd r).runTooLong l then closeOverlong r l s2 else s2

/-- The final span end of a run that closes at the entry of index e: the least of the last hot index plus g, e, and the
index before the next entry on the lane (R50). -/
def Reader.finalEnd (rd : Reader) (l : Lane) (e : Nat) : Nat :=
  match (rd.lane l).detector.record with
  | some x => min (tentativeEnd rd.table l x.lastHot rd.active.guard) e
  | none => e

/-- The close of a lane's run is due: RUN with a quiet count of G + 1 (R50, R58). -/
def Reader.closeDue (rd : Reader) (l : Lane) : Bool :=
  (rd.lane l).detector.run == .run && rd.active.mergeGap + 1 ≤ (rd.lane l).detector.quiet

/-- The end of a lane's saturation is due: SATURATED with a quiet count of G + 1 (R53, R58). -/
def Reader.saturationDue (rd : Reader) (l : Lane) : Bool :=
  (rd.lane l).detector.run == .saturated && rd.active.mergeGap + 1 ≤ (rd.lane l).detector.quiet

/-- RUN_CLOSE at the entry of the sample that entered last (R50). -/
def closeRunNow (r : ReaderId) (l : Lane) (s : State) : State :=
  closeRun r l ((s.rd r).finalEnd l ((s.rd r).entered - 1)) s

/-- SATURATION_END: the lane returns to IDLE with quiet count 0 (R53). -/
def endSaturation (r : ReaderId) (l : Lane) (s : State) : State := s.onDetector r l Detector.idle

/-- A non-hot, covered or suspended sample: the quiet count increases in RUN and in SATURATED, and at G + 1 the run
closes or the saturation ends (R46, R49, R50, R53, R56). -/
def quietSample (r : ReaderId) (l : Lane) (s : State) : State :=
  let s1 := s.onDetector r l fun d => { d with quiet := d.quiet + 1 }
  if (s1.rd r).closeDue l then closeRunNow r l s1
  else if (s1.rd r).saturationDue l then endSaturation r l s1
  else s1

/-! ## The treatment of an entering sample (R41, R46, R56) -/

/-- A judged sample's action on the run state (R46); covered hot samples act as R45 states. -/
def actOnRun (r : ReaderId) (l : Lane) (e : Nat) (hot covered : Bool) (ratio : Nat) (twinOpens : Bool) (s : State) : State :=
  match (s.detector r l).run with
  | .idle =>
    if hot && !covered then
      if (s.rd r).table.length < Config.tableCapacity then openRun r l e ratio twinOpens s else saturate r l s
    else s
  | .run => if hot && !covered then extendRun r l e ratio s else quietSample r l s
  | .catchup => if hot then s else endSaturation r l s
  | .saturated => if hot && !covered then s.onDetector r l fun d => { d with quiet := 0 } else quietSample r l s

/-- Whether a judged sample updates E (R43). -/
def updatesEnvelope (rs : RunState) (hot : Bool) : Bool :=
  match rs with
  | .catchup => true
  | .idle => !hot
  | .run => !hot
  | .saturated => !hot

/-- The sample x of index e would open a run on a lane in a table with held entries: it is judged in IDLE, hot and not
covered, and there is a place (R41, R46 to R48, R56). -/
def Reader.opensRun (rd : Reader) (l : Lane) (e : Nat) (x : Sample) (held : Nat) : Bool :=
  let d := (rd.lane l).detector
  rd.active.detectorEnable && 2 ≤ d.history && !(rd.lane l).stuck && d.run == .idle &&
    isHot rd.active.threshold d.envelope (d.difference x) && !rd.covered l e && held < Config.tableCapacity

/-- A judged sample: hotness and cover as the detector and the table stand, E, then the run state (R42 to R46). The
twin's sample y of the same entry event is given where it is still to be judged. -/
def judgeSample (r : ReaderId) (l : Lane) (e : Nat) (x : Sample) (y : Option Sample) (s : State) : State :=
  let rd := s.rd r
  let d := s.detector r l
  let mag := d.difference x
  let hot := isHot rd.active.threshold d.envelope mag
  let ratio := peakRatio d.envelope mag
  let covered := rd.covered l e
  let twinOpens := y.any fun y => rd.opensRun (twinOf l) e y (rd.table.length + 1)
  let s1 := if updatesEnvelope d.run hot then
      s.onDetector r l fun d => { d with envelope := envelopeAfter rd.active.envelopeRate d.envelope mag }
    else s
  actOnRun r l e hot covered ratio twinOpens s1

/-- A suspended entry acts on the run state as a non-hot sample would, without updating E (R56). -/
def suspendedSample (r : ReaderId) (l : Lane) (s : State) : State :=
  match (s.detector r l).run with
  | .idle => s
  | .run => quietSample r l s
  | .catchup => endSaturation r l s
  | .saturated => quietSample r l s

/-- A sample that serves to prime the detector: the history count increases, up to 2 (R41, R60). -/
def primeSample (r : ReaderId) (l : Lane) (s : State) : State :=
  s.onDetector r l fun d => { d with history := min (d.history + 1) 2 }

/-- The detector of a lane at the entry of the sample x of index e, in RUNNING: the first treatment of R41 that applies,
and then the previous samples move on. The watches are evaluated after it (R186). The twin's sample y is given where it
is still to be judged. -/
def detectLane (r : ReaderId) (l : Lane) (e : Nat) (x : Sample) (y : Option Sample) (s : State) : State :=
  let rd := s.rd r
  let treated :=
    if !rd.active.detectorEnable || decide ((s.detector r l).history < 2) then primeSample r l s
    else if (rd.lane l).stuck then suspendedSample r l s
    else judgeSample r l e x y s
  (treated.onDetector r l (·.shift x)).evaluateWatches

/-- Both lanes' detectors, the lane named first taken first (R48, R55, R72). -/
def detectBoth (r : ReaderId) (first : Lane) (e : Nat) (x0 x1 : Sample) (s : State) : State :=
  match first with
  | .lane0 => detectLane r .lane1 e x1 none (detectLane r .lane0 e x0 (some x1) s)
  | .lane1 => detectLane r .lane0 e x0 none (detectLane r .lane1 e x1 (some x0) s)

/-! ## Apply (R58 to R60) -/

/-- The detector of a lane at an apply whose set turns the detector off: a run's OPEN entry is freed and counted, and
the run state becomes IDLE (R60). -/
def disableLane (l : Lane) (rd : Reader) : Reader :=
  match (rd.lane l).detector.run with
  | .run => ({ rd.countUnrecorded with table := rd.table.filter fun d => !isRunOf l d }).idleLane l
  | .catchup => rd.idleLane l
  | .saturated => rd.idleLane l
  | .idle => rd

/-- A run in RUN at an apply: its tentative end is recomputed with the new g, and it closes overlong where its span
exceeds the new Lmax (R58, R59). -/
def applyToRun (r : ReaderId) (s : State) (l : Lane) : State :=
  match (s.detector r l).run, (s.detector r l).record with
  | .run, some x =>
    let s1 := s.onReader r fun y => y.growRun l x.lastHot 0
    if (s1.rd r).runTooLong l then closeOverlong r l s1 else s1
  | .run, none => s
  | .idle, _ => s
  | .catchup, _ => s
  | .saturated, _ => s

/-- Both detectors at an apply (R58 to R60); runs in the order of their entries (log entry 13). DESIGN CHOICE (log
entry 40): at an apply that turns the detector off, R60 alone acts on a run, and its span is not compared with the new
Lmax (R59). -/
def applyToDetectors (r : ReaderId) (old : ParamSet) (s : State) : State :=
  if old.detectorEnable && !(s.rd r).active.detectorEnable then
    s.onReader r fun x => disableLane .lane1 (disableLane .lane0 x)
  else (lanesByTable (s.rd r).table).foldl (applyToRun r) s

/-! ## Start, bypass and stop (R40, R61, R62) -/

/-- The start values of a detector (R8, R40). -/
def Detector.start : Detector :=
  { prev1 := 0, prev2 := 0, history := 0, envelope := 16, run := .idle, record := none, quiet := 0 }

/-- BYPS OFF: E becomes 16, the previous samples the two that entered last, the history count 2 or the number of
samples of the run if fewer (R13, R61). -/
def LaneState.resumeDetector (ln : LaneState) (n : Nat) : LaneState :=
  { ln with detector := { ln.detector.idle with
      envelope := 16, prev1 := ln.lastEntered, prev2 := ln.beforeLast, history := min n 2 } }

end Sys2Proof.Machine
end

