-- ==== Sys2Proof/Machine/Splices.lean ====
section
/-! DEFINITION. The splice schedule and the exclusion list (spec/05_splice_schedule_and_exclusion_list.md): their work at real
pulses, and the opening of a splice. -/

namespace Sys2Proof.Machine

/-! ## The lists (R91, R101) -/

/-- Place an entry in the schedule, in ascending order of due frame (R91). -/
def insertSplice (t : List SpliceEntry) (x : SpliceEntry) : List SpliceEntry :=
  t.takeWhile (fun y => y.due < x.due) ++ x :: t.dropWhile (fun y => y.due < x.due)

/-- Place a range in the list, in ascending order of start frame (R101). -/
def insertRange (t : List FrameRange) (x : FrameRange) : List FrameRange :=
  t.takeWhile (fun y => y.first < x.first) ++ x :: t.dropWhile (fun y => y.first < x.first)

/-! ## Opening a splice (R97 to R99) -/

/-- What absorption has gathered: the span, the entries absorbed, and the entries that remain in the table. -/
structure Absorption where
  first : Nat
  last : Nat
  absorbed : List Defect
  remaining : List Defect
deriving DecidableEq, Repr

/-- An uncommitted CLICK entry that shares an index with the span (R97 step 2). -/
def absorbs (first last : Nat) (d : Defect) : Bool := d.uncommitted && d.kind == .click && d.shares first last

/-- One round of absorption: every entry that shares an index with the span joins it. -/
def Absorption.round (a : Absorption) : Absorption :=
  let taken := a.remaining.filter (absorbs a.first a.last)
  { first := taken.foldl (fun x d => min x d.spanStart) a.first
    last := taken.foldl (fun x d => max x d.spanEnd) a.last
    absorbed := a.absorbed ++ taken
    remaining := a.remaining.filter fun d => !absorbs a.first a.last d }

/-- Absorption repeated against the enlarged span; each round that takes an entry shortens the remaining table, so as
many rounds as it has entries suffice (R97 step 2). -/
def Absorption.rounds : Nat → Absorption → Absorption
  | 0, a => a
  | n + 1, a => a.round.rounds n

/-- The entries that clip a splice: COMMITTED of either kind, or SPLICE in any state, that share an index with the span
(R97 step 3). -/
def clips (first last : Nat) (d : Defect) : Bool := (d.state == .committed || d.kind == .splice) && d.shares first last

/-- The span start after clipping: the index after the greatest such span end (R97 step 3). -/
def clippedStart (t : List Defect) (first last : Nat) : Nat :=
  t.foldl (fun x d => if clips first last d then max x d.after else x) first

/-- The absorbed entries are freed, and an absorbed OPEN entry ends its lane's run (R97 step 2, R57). -/
def Reader.freeAbsorbed (rd : Reader) (a : Absorption) : Reader :=
  let rd0 := { rd with table := a.remaining }
  let rd1 := if a.absorbed.any (isRunOf .lane0) then rd0.idleLane .lane0 else rd0
  if a.absorbed.any (isRunOf .lane1) then rd1.idleLane .lane1 else rd1

/-- The splice's span with step 1 and step 2 of R97: t - splice pre to t + splice post - 1, then absorption. -/
def Reader.absorption (rd : Reader) (t : Nat) : Absorption :=
  Absorption.rounds rd.table.length
    { first := t - rd.active.splicePre, last := t + rd.active.splicePost - 1, absorbed := [], remaining := rd.table }

/-- The entry a splice takes (R99). -/
def spliceEntry (first last : Nat) : Defect :=
  { lanes := .both, kind := .splice, state := .opened, spanStart := first, spanEnd := last, peak := 0, cut := false
    method := none, number := none, captured := false }

/-- A lane's run that lies wholly before the splice closes with its tentative end as its final end (R99). -/
def closeBefore (r : ReaderId) (first : Nat) (s : State) (l : Lane) : State :=
  match (s.rd r).table.find? (isRunOf l) with
  | some d => if d.spanEnd < first then closeRun r l d.spanEnd s else s
  | none => s

/-- The opening of a splice with its span formed, the entries it absorbed freed (R99). An earlier splice that is still OPEN
is neither closed nor cut, and runs may open before a clipped start while the splice is OPEN (DESIGN CHOICE, log entry 41). -/
def fileSplice (r : ReaderId) (first last : Nat) (s : State) : State :=
  if (s.rd r).table.length < Config.tableCapacity then
    let s1 := (lanesByTable (s.rd r).table).foldl (closeBefore r first) s
    let s2 := cutEntries r (fun _ => true) (fun _ => false) s1
    s2.onReader r fun x => { x with table := fileDefect x.table (spliceEntry first last) }
  else s.onReader r Reader.countUnrecorded

/-- A due splice at the pulse of event index t (R97, R98). Each commit that it brings evaluates the watches for what the
commit changed, and the watches are evaluated once more when the opening is complete (R186). -/
def openSplice (r : ReaderId) (t : Nat) (s : State) : State :=
  let a := (s.rd r).absorption t
  let s1 := s.onReader r fun x => x.freeAbsorbed a
  let first := clippedStart a.remaining a.first a.last
  let opened :=
    if a.last < first then
      let s2 := if a.absorbed.isEmpty then s1 else s1.onReader r Reader.countUnrecorded
      reportMissed r t s2
    else
      let s2 := if a.absorbed.any (fun d => d.spanStart < first) then s1.onReader r Reader.countUnrecorded else s1
      fileSplice r first a.last s2
  opened.evaluateWatches

/-! ## The schedule and the list at a real pulse (R96, R104) -/

/-- The first of the entries whose due frame has passed leaves and is reported MISSED (R96 step 1). -/
def missFirst (r : ReaderId) (t : Nat) (s : State) : State :=
  (reportMissed r t (s.onReader r fun x => { x with schedule := x.schedule.tail })).evaluateWatches

/-- Every entry whose due frame is less than the frame count leaves, in ascending order (R96 step 1); there are no more
of them than the schedule has entries. -/
def missPassed (r : ReaderId) (t : Nat) : Nat → State → State
  | 0, s => s
  | n + 1, s =>
    match (s.rd r).schedule with
    | [] => s
    | x :: _ => if x.due < (s.rd r).monitor.frameCount then missPassed r t n (missFirst r t s) else s

/-- The head entry, when its due frame equals the frame count, leaves and its splice opens; it is kept while the reader
is clock lost (R96 step 2). DESIGN CHOICE (log entry 37): an entry due at 2^32 - 1 that was kept finds the count still
equal to its due frame at the next pulse, since the count holds there (R24), and is not reported MISSED: its splice opens
at the first later pulse taken with the clock running. -/
def openDue (r : ReaderId) (t : Nat) (s : State) : State :=
  match (s.rd r).schedule with
  | [] => s
  | x :: rest =>
    if x.due = (s.rd r).monitor.frameCount ∧ (s.rd r).clockLost = false then
      openSplice r t (s.onReader r fun y => { y with schedule := rest })
    else s

/-- The splice schedule at a real pulse (R96). A splice is formed at t, the index of the next sample to enter, as a
count of samples entered; its records carry the 48-bit index (R5). -/
def scheduleAtPulse (r : ReaderId) (s : State) : State :=
  let t := (s.rd r).entered
  openDue r t (missPassed r t (s.rd r).schedule.length s)

/-- The exclusion list at a real pulse: the ranges that end before the frame count are removed (R104). -/
def expireExclusions (r : ReaderId) (s : State) : State :=
  s.onReader r fun x => { x with exclusions := x.exclusions.filter fun y => x.monitor.frameCount ≤ y.last }

end Sys2Proof.Machine
end

