-- ==== Sys2Proof/Machine/Frame.lean ====
section
/-! DEFINITION. Frame events: the apply, the reactions of the blocks (R36, R150 to R153), the start point (R8), real pulses
(R23) and virtual ticks (R33). -/

namespace Sys2Proof.Machine

/-! ## The apply (R150, R152, R153) -/

/-- The change of roles with its APLD report (R150, R152). -/
def rotateSlots (r : ReaderId) (cause : ApldCause) (index : Nat) (s : State) : State :=
  let before := (s.rd r).params
  let s1 := s.onReader r fun x => { x with params := x.params.rotate }
  s1.offer r (.apld cause (before.hold && before.syncPending) (s1.rd r).params.activeSlot (s1.rd r).monitor.frameCount index)

/-- S clamped into the new set's range, before the increments are recomputed from it (R37, R153). -/
def clampSmoothed (r : ReaderId) (s : State) : State :=
  s.onReader r fun x => { x with monitor := x.monitor.clampS x.active }

/-- The hum canceller at an apply, with its HUMS report of cause APPLY (R123, R121). -/
def applyToHum (r : ReaderId) (old : ParamSet) (index : Nat) (s : State) : State :=
  let before := s.rd r
  (s.onReader r fun x => x.applyHum old).offerHums r .apply index before

/-- The hiss filters at an apply (R132, R133). -/
def applyToHiss (r : ReaderId) (old : ParamSet) (s : State) : State :=
  s.onReader r fun x => x.onLanes fun ln => { ln with hiss := ln.hiss.apply old x.active }

/-- An apply at a frame event: the roles and the APLD report, then the clamp of S, the hum canceller, the detectors and
the hiss filters under the new set (R152, R153, log entry 13). The watches are evaluated behind the APLD report, behind
the HUMS report, behind each commit of an overlong close, and once all is done (R186). -/
def applySet (r : ReaderId) (cause : ApldCause) (index : Nat) (s : State) : State :=
  let old := (s.rd r).active
  let s0 := (rotateSlots r cause index s).evaluateWatches
  let s1 := (applyToHum r old index (clampSmoothed r s0)).evaluateWatches
  let s2 := applyToHiss r old (applyToDetectors r old s1)
  (s2.onReader r fun x => { x with appliedSince := true }).evaluateWatches

/-- The parameter sets' reaction to a frame event (R150): RUNNING or BYPASSED, a set STAGED, and released. -/
def applyAtFrame (r : ReaderId) (cause : ApldCause) (index : Nat) (s : State) : State :=
  if (s.rd r).started && (s.rd r).params.releases then applySet r cause index s else s

/-! ## Delivery (R36) -/

/-- What brings a frame event. -/
inductive FrameEvent where
  | pulse | arming | tick
deriving DecidableEq, Repr

/-- The cause an APLD report names (R152). -/
def FrameEvent.cause : FrameEvent → ApldCause
  | .pulse => .pulse
  | .arming => .pulse
  | .tick => .tick

/-- A frame event seen by the blocks of R36, the monitor's own work being done: the parameter sets, the hum canceller,
and at real pulses the splice schedule and the exclusion list (log entry 12). The arming pulse removes no range (R104). -/
def frameEvent (r : ReaderId) (ev : FrameEvent) (index : Nat) (s : State) : State :=
  let s1 := humFrameEvent r index (applyAtFrame r ev.cause index s)
  match ev with
  | .tick => s1
  | .arming => scheduleAtPulse r s1
  | .pulse => expireExclusions r (scheduleAtPulse r s1)

/-! ## The start point (R8) -/

/-- The start values of one lane: stuck detection, detector and hiss filter (R8 steps 2, 4 and 7). -/
def LaneState.start (ln : LaneState) : LaneState :=
  { ln with equalRun := 0, stuck := false, detector := Detector.start, hiss := Hiss.start }

/-- The start values of a reader, in the order of R8: the apply, the reader core, the frame monitor, the detectors, the
defect table, the hum canceller and the hiss filters. -/
def Reader.startPoint (rd : Reader) : Reader :=
  let rd1 := { rd with params := rd.params.rotate }
  let rd2 := { rd1 with
    state := .running
    entered := 0
    monitor := Monitor.start rd1.active.pn rd.pendingStart
    nextNumber := 1 }
  (rd2.onLanes LaneState.start).startHum

/-- The start point, with the APLD report of cause START where a set was STAGED (R8, R151, R152). -/
def startPoint (r : ReaderId) (s : State) : State :=
  let staged := ((s.rd r).params.holder .staged).isSome
  let s1 := s.onReader r Reader.startPoint
  let s2 := if staged then
      s1.offer r (.apld .start false (s1.rd r).params.activeSlot (s1.rd r).monitor.frameCount 0)
    else s1
  s2.evaluateWatches

/-! ## Real pulses (R23) -/

/-- The arming pulse: the start point, then the pulse as the first reference with timestamp 0, then its frame event
(R9, R26, R36). -/
def armingPulse (r : ReaderId) (s : State) : State :=
  let s1 := startPoint r s
  let s2 := s1.onReader r fun x => { x with monitor := x.monitor.refer 0 x.clockLost }
  frameEvent r .arming 0 s2

/-- A real pulse in RUNNING or BYPASSED: the monitor's own work, then the frame event (R23, R36). -/
def countedPulse (r : ReaderId) (s : State) : State :=
  frameEvent r .pulse (s.rd r).index (monitorPulse r s)

def realPulse (r : ReaderId) (s : State) : State :=
  match (s.rd r).state with
  | .stopped => s
  | .armed => armingPulse r s
  | .running => countedPulse r s
  | .bypassed => countedPulse r s

/-! ## Virtual ticks (R32, R33, R35) -/

/-- A virtual tick: the monitor's own work, then the frame event (R33, R36). -/
def virtualTick (r : ReaderId) (s : State) : State :=
  frameEvent r .tick (s.rd r).index (monitorTick r s)

/-- HOLDOVER is entered and its first virtual tick occurs at the same entry event (R32). -/
def holdoverEntry (r : ReaderId) (s : State) : State := virtualTick r (enterHoldover r s)

/-- The frame monitor at an entry event, the index advanced (R32, R33, R35). -/
def monitorAtEntry (r : ReaderId) (s : State) : State :=
  if (s.rd r).holdoverDue then holdoverEntry r s
  else if (s.rd r).tickDue then virtualTick r s
  else s

end Sys2Proof.Machine
end

