-- ==== Sys2Proof/Machine/Entry.lean ====
section
/-! DEFINITION. The entry event (spec/01_the_reader_and_its_sample_window.md): the window, stuck detection, the path of the
exiting samples to the output port, and the clock. -/

namespace Sys2Proof.Machine

/-! ## Stuck detection (R15, R16) -/

/-- The equal-run count after a sample: one more where it equals the last that entered, holding at 65 535, else 0 (R15). -/
def LaneState.equalRunAfter (ln : LaneState) (x : Sample) : Nat :=
  if x = ln.lastEntered then holdingSucc 65535 ln.equalRun else 0

/-- STUCK after a sample (R15): a STUCK lane leaves it at a differing sample, another becomes STUCK as its count reaches
the stuck count. -/
def LaneState.stuckAfter (ln : LaneState) (p : ParamSet) (x : Sample) : Bool :=
  if ln.stuck then x = ln.lastEntered else p.stuckCount ≤ ln.equalRunAfter x

/-- The entry of a sample into a lane: the window moves, and the sample becomes the last that entered (R3, R15, R16).
Stuck detection acts where judged says so; elsewhere the sample is entered unmarked. -/
def LaneState.enter (ln : LaneState) (p : ParamSet) (judged : Bool) (x : Sample) : LaneState :=
  let stuck := if judged then ln.stuckAfter p x else ln.stuck
  { ln with
    window := pushCell ln.window { sample := x, mark := judged && stuck }
    lastEntered := x
    beforeLast := ln.lastEntered
    equalRun := if judged then ln.equalRunAfter x else ln.equalRun
    stuck := stuck }

/-- Offer a LANE report with the lane conditions as they stand (R21), unless it would name no lane. -/
def State.offerLane (s : State) (r : ReaderId) (cause : LaneCause) (lane0 lane1 : Bool) (index : Nat) : State :=
  let rd := s.rd r
  if lane0 || lane1 then
    s.offer r (.lane cause lane0 lane1 rd.lane0.stuck rd.lane1.stuck rd.clockLost rd.monitor.frameCount index)
  else s

/-- The LANE reports of the changes of STUCK since old: STUCK first, then UNSTUCK (R21). -/
def State.offerStuckChanges (s : State) (r : ReaderId) (old : Reader) (index : Nat) : State :=
  let rd := s.rd r
  (s.offerLane r .stuck (!old.lane0.stuck && rd.lane0.stuck) (!old.lane1.stuck && rd.lane1.stuck) index).offerLane r
    .unstuck (old.lane0.stuck && !rd.lane0.stuck) (old.lane1.stuck && !rd.lane1.stuck) index

/-- The reader core at an entry event in RUNNING or BYPASSED: both lanes' samples enter and are judged, the index
advances, committed entries whose span has left are removed (R3, R5, R15, R67); then the LANE reports and the watches. -/
def enterStarted (r : ReaderId) (x0 x1 : Sample) (s : State) : State :=
  let old := s.rd r
  let s1 := s.onReader r fun x =>
    ({ x with
      lane0 := x.lane0.enter x.active true x0
      lane1 := x.lane1.enter x.active true x1
      entered := x.entered + 1
      appliedSince := false }).removeLeft
  (s1.offerStuckChanges r old old.index).evaluateWatches

/-- The reader core at an entry event in STOPPED or ARMED: the window moves and the output is the exiting sample (R4, R5,
R16). -/
def enterIdle (x0 x1 : Sample) (rd : Reader) : Reader :=
  { rd with
    lane0 := rd.lane0.enter rd.active false x0
    lane1 := rd.lane1.enter rd.active false x1
    output := some ((exitingCell rd.lane0.window).sample, (exitingCell rd.lane1.window).sample) }

/-! ## The path of the exiting samples (R4, R17, R18, R113, R128) -/

/-- Twin fallback acts on a lane whose exiting sample is marked while its twin's is not, in TWIN mode (R17). -/
def fallsBack (mode : LaneMode) (own twin : Bool) : Bool := mode == .twin && own && !twin

/-- One lane in RUNNING: the residual of its exiting sample, the weight update where fallback does not act, and the
hiss filter (R113 to R115, R128). -/
def LaneState.processExit (ln : LaneState) (h : Hum) (p : ParamSet) (fallback : Bool) (x : Sample) : LaneState :=
  let e := ln.residual h x
  let adapted := if fallback then ln else ln.adapt h p e
  { adapted with hiss := ln.hiss.process p e }

/-- Both lanes' exiting cells in RUNNING: hum, hiss and twin fallback give the output, and the phases advance after both
estimates (R4, R17, R111). The value a hiss filter hands on is its state y after the update (R128, R132). -/
def processRunning (c0 c1 : Cell) (rd : Reader) : Reader :=
  let f0 := fallsBack rd.laneMode c0.mark c1.mark
  let f1 := fallsBack rd.laneMode c1.mark c0.mark
  let ln0 := rd.lane0.processExit rd.hum rd.active f0 c0.sample
  let ln1 := rd.lane1.processExit rd.hum rd.active f1 c1.sample
  { rd with
    lane0 := ln0
    lane1 := ln1
    hum := rd.hum.advance
    output := some (if f0 then ln1.hiss.y else ln0.hiss.y, if f1 then ln0.hiss.y else ln1.hiss.y) }

/-- The exiting samples in BYPASSED: they are the output, and the phases go on advancing (R4, R12, R111). -/
def processBypassed (c0 c1 : Cell) (rd : Reader) : Reader :=
  { rd with hum := rd.hum.advance, output := some (c0.sample, c1.sample) }

/-! ## The entry event (R2, R3) -/

/-- An entry event in RUNNING: the reader core, the detectors, the table, the path of the exiting samples, the frame
monitor (log entry 24). -/
def entryRunning (r : ReaderId) (x0 x1 : Sample) (first : Lane) (s : State) : State :=
  let c0 := exitingCell (s.rd r).lane0.window
  let c1 := exitingCell (s.rd r).lane1.window
  let s1 := enterStarted r x0 x1 s
  let s2 := tableAtEntry r (detectBoth r first ((s1.rd r).entered - 1) x0 x1 s1)
  monitorAtEntry r (s2.onReader r (processRunning c0 c1))

/-- An entry event in BYPASSED (R12). -/
def entryBypassed (r : ReaderId) (x0 x1 : Sample) (s : State) : State :=
  let c0 := exitingCell (s.rd r).lane0.window
  let c1 := exitingCell (s.rd r).lane1.window
  let s1 := tableAtEntry r (enterStarted r x0 x1 s)
  monitorAtEntry r (s1.onReader r (processBypassed c0 c1))

/-- The entry event of a completed word-clock period. No entry takes place while the reader is clock lost (R2, R19). -/
def entryEvent (r : ReaderId) (x0 x1 : Sample) (first : Lane) (s : State) : State :=
  if (s.rd r).clockLost then s
  else match (s.rd r).state with
    | .stopped => s.onReader r (enterIdle x0 x1)
    | .armed => s.onReader r (enterIdle x0 x1)
    | .running => entryRunning r x0 x1 first s
    | .bypassed => entryBypassed r x0 x1 s

/-! ## The clock (R19, R20, R38) -/

/-- The reader becomes clock lost: the reference is voided, the output port sends nothing, a LANE report is offered
(R19, R21, R38). -/
def loseClock (r : ReaderId) (s : State) : State :=
  if (s.rd r).clockLost then s
  else
    let s1 := s.onReader r fun x => { x with clockLost := true, output := none, monitor := x.monitor.loseClock }
    (s1.offerLane r .clockLost true true (s1.rd r).index).evaluateWatches

/-- The first word-clock edge after a loss (R19); an edge while the clock runs only restarts the interval. -/
def regainClock (r : ReaderId) (s : State) : State :=
  if (s.rd r).clockLost then
    let s1 := s.onReader r fun x => { x with clockLost := false }
    (s1.offerLane r .clockBack true true (s1.rd r).index).evaluateWatches
  else s

/-! ## A lane that becomes STUCK, as an event of its own (R15, R16) -/

/-- A lane whose equal-run count has reached the stuck count and that is not STUCK. -/
def LaneState.stuckDue (ln : LaneState) (p : ParamSet) : Bool := !ln.stuck && p.stuckCount ≤ ln.equalRun

/-- The lane becomes STUCK and the sample whose entry made it so is marked. -/
def LaneState.becomeStuck (ln : LaneState) (p : ParamSet) : LaneState :=
  if ln.stuckDue p then
    { ln with stuck := true, window := match ln.window with
        | [] => []
        | c :: rest => { c with mark := true } :: rest }
  else ln

/-- The event is due on the reader: it acts in RUNNING and BYPASSED with the clock running, and compares with the stuck
count in force at the last entry (R15, log entry 2). -/
def Reader.stuckDue (rd : Reader) : Bool :=
  rd.started && !rd.clockLost && !rd.appliedSince && (rd.lane0.stuckDue rd.active || rd.lane1.stuckDue rd.active)

/-- LANE_STUCK: the lanes become STUCK, with their LANE report, then the watches (R15, R21, R186). -/
def lanesBecomeStuck (r : ReaderId) (s : State) : State :=
  let old := s.rd r
  let s1 := s.onReader r fun x => x.onLanes (·.becomeStuck x.active)
  (s1.offerStuckChanges r old (index48 (old.entered - 1))).evaluateWatches

end Sys2Proof.Machine
end

