-- ==== Sys2Proof/Machine/Reports.lean ====
section
/-! DEFINITION. Report records as frames (section 10.6, R174, R182), and the transmitter's arbiter (R159, R160). -/

namespace Sys2Proof.Machine

/-! ## Frames (R174) -/

def syncByte : Byte := 0xC3

/-- The sum of bytes modulo 256. -/
def byteSum (bs : List Byte) : Byte := bs.foldl (· + ·) 0

/-- The bytes of a frame on the line: sync, length, type, tag, payload and the checksum that makes the sum 0. -/
def frameBytes (type tag : Byte) (payload : List Byte) : List Byte :=
  let inner := le 2 (payload.length + 2) ++ type :: tag :: payload
  syncByte :: (inner ++ [-byteSum inner])

/-! ## Report payloads (section 10.6) -/

def ReportBody.type : ReportBody → Byte
  | .dfct _ => 0x40
  | .frms _ _ _ _ _ => 0x41
  | .apld _ _ _ _ _ => 0x42
  | .hums _ _ _ _ => 0x43
  | .lane _ _ _ _ _ _ _ _ => 0x44
  | .capd _ _ _ _ _ => 0x45
  | .alrt _ _ _ _ _ => 0x46

def HumItem.bytes (i : HumItem) : List Byte := [BitVec.ofNat 8 i.slot, laneCode i.lane, i.status.code]

/-- The lanes field of a LANE report: bit 0 for lane 0 and bit 1 for lane 1 (1, 2 or 3). -/
def lanesField (lane0 lane1 : Bool) : Byte := byteBit lane0 0 ||| byteBit lane1 1

/-- The payload after the reader and flags bytes. -/
def ReportBody.bytes : ReportBody → List Byte
  | .dfct f => BitVec.ofNat 8 f.lanes.code :: f.kind.code :: f.method.code ::
      (le 4 f.number ++ le 6 f.spanStart ++ le 2 f.length ++ le 2 f.peak ++ le 4 f.frameCount)
  | .frms st c s fc i => st.code :: c.code :: (le 4 s ++ le 4 fc ++ le 6 i)
  | .apld c _ sl fc i => c.code :: sl.code :: (le 4 fc ++ le 6 i)
  | .hums c fc i items => c.code :: (le 4 fc ++ le 6 i ++ BitVec.ofNat 8 items.length :: items.flatMap HumItem.bytes)
  | .lane c l0 l1 s0 s1 lost fc i => c.code :: lanesField l0 l1 :: laneConditions s0 s1 lost :: (le 4 fc ++ le 6 i)
  | .capd n t ls fi c => le 4 n ++ boolCode t :: BitVec.ofNat 8 ls :: (le 6 fi ++ le 2 c)
  | .alrt cs m md fc i => bytes16 cs ++ bytes16 m ++ md.code :: (le 4 fc ++ le 6 i)

/-- A report's payload: the reader byte, the flags byte and the fields of its kind. -/
def Record.payload (x : Record) : List Byte := readerCode x.reader :: x.flags :: x.body.bytes

/-- A report record as the frame it is sent as: its type, tag 0, its payload (R182). -/
def Record.frame (x : Record) : List Byte := frameBytes x.body.type 0 x.payload

/-! ## The arbiter (R160) -/

/-- The head record with its report-lost field fixed as its transmission begins, and the flag cleared (R159). -/
def ReportQueue.beginHead (q : ReportQueue) : ReportQueue :=
  match q.records with
  | [] => q
  | x :: rest => { q with records := { x with lost := q.lost } :: rest, lost := false }

/-- The arbiter's choice when the transmitter is free (R160): with CTS asserted a ready reply, else the head record
where reports are enabled, else nothing. A message in transmission is not interrupted. -/
def State.arbitrate (s : State) : State :=
  match s.link.transmitter with
  | .reply _ => s
  | .report _ => s
  | .idle =>
    if s.cts then
      match s.link.reply with
      | some rep => s.onLink fun k => { k with transmitter := .reply (frameBytes rep.type rep.tag rep.payload) }
      | none =>
        if s.queue.enabled then
          match s.queue.beginHead.records with
          | [] => s
          | x :: _ => (s.onQueue ReportQueue.beginHead).onLink fun k => { k with transmitter := .report x.frame }
        else s
    else s

end Sys2Proof.Machine
end

