-- ==== Sys2Proof/Machine/Requests.lean ====
section
/-! DEFINITION. What each request does when it is taken, and the reply it is answered with: the status byte and the fields of
section 10.6. Every handler answers the new state and the reply's payload. -/

namespace Sys2Proof.Machine

/-- What the taking of a request gives. -/
structure Answer where
  state : State
  payload : List Byte
deriving DecidableEq, Repr

/-- A reply of its status alone, the state as given. -/
def answer (s : State) (status : Status) (fields : List Byte := []) : Answer :=
  { state := s, payload := status.code :: fields }

/-! ## Starting, stopping and bypass (R7 to R13) -/

/-- STRT records the lane mode and the start frame (R7). -/
def Reader.recordStart (rd : Reader) (mode : LaneMode) (startFrame : Nat) : Reader :=
  { rd with laneMode := mode, pendingStart := startFrame }

/-- STRT (R7): option 0 is IMMEDIATE and 1 is AT-FRAME. -/
def takeStrt (r : ReaderId) (laneMode option : Byte) (startFrame : BitVec 32) (s : State) : Answer :=
  if (s.rd r).state = .stopped then
    match laneModeOf laneMode with
    | none => answer s .value
    | some mode =>
      let recorded := s.onReader r fun x => x.recordStart mode startFrame.toNat
      if option = 0 then answer (startPoint r recorded) .ok
      else if option = 1 then answer (recorded.onReader r fun x => { x with state := .armed }) .ok
      else answer s .value
  else answer s .state

/-- The uncommitted entries of a reader (R10, R12). -/
def Reader.uncommittedCount (rd : Reader) : Nat := rd.table.countP Defect.uncommitted

def Capture.stop (c : Capture) : Capture :=
  { c with state := match c.state with
      | .armed => .disarmed
      | .held => .held
      | .disarmed => .disarmed }

/-- STOP on a lane (R10, R62, R125). -/
def LaneState.stop (ln : LaneState) : LaneState :=
  let ln1 := ln.stopHum
  { ln1 with equalRun := 0, stuck := false, detector := ln1.detector.idle }

/-- STOP on each block of the reader (R10). -/
def Reader.stop (rd : Reader) : Reader :=
  ({ rd with
    state := .stopped
    table := []
    schedule := []
    exclusions := []
    capture := rd.capture.stop
    monitor := rd.monitor.stop }).onLanes LaneState.stop

/-- STOP (R10): the discarded count, the frame count and the index as they stood, and a LANE report UNSTUCK (R21). -/
def takeStop (r : ReaderId) (s : State) : Answer :=
  let rd := s.rd r
  if rd.state = .stopped then answer s .state
  else
    let s1 := s.onReader r Reader.stop
    answer (s1.offerStuckChanges r rd rd.index) .ok
      (BitVec.ofNat 8 rd.uncommittedCount :: (le 4 rd.monitor.frameCount ++ le 6 rd.index))

/-- BYPS ON in RUNNING (R12, R61). -/
def Reader.enterBypass (rd : Reader) : Reader :=
  ({ rd with state := .bypassed, table := rd.table.filter fun d => !d.uncommitted }).onLanes fun ln =>
    { ln with detector := ln.detector.idle }

/-- BYPS OFF in BYPASSED (R13, R61, R125). -/
def Reader.leaveBypass (rd : Reader) : Reader :=
  ({ rd with state := .running }).onLanes fun ln =>
    { (ln.resumeDetector rd.entered) with adapted := false }

/-- BYPS (R11): setting 0 is OFF and 1 is ON. The reply carries the abandoned count. -/
def takeByps (r : ReaderId) (setting : Byte) (s : State) : Answer :=
  let rd := s.rd r
  match rd.state with
  | .stopped => answer s .state [0]
  | .armed => answer s .state [0]
  | .running =>
    if setting = 1 then answer (s.onReader r Reader.enterBypass) .ok [BitVec.ofNat 8 rd.uncommittedCount]
    else if setting = 0 then answer s .noEffect [0]
    else answer s .value [0]
  | .bypassed =>
    if setting = 0 then answer (s.onReader r Reader.leaveBypass) .ok [0]
    else if setting = 1 then answer s .noEffect [0]
    else answer s .value [0]

/-! ## Parameter sets (R140 to R149) -/

/-- Write the EDIT set (R141). -/
def Params.writeEdit (p : Params) (ws : List FieldWrite) : Params :=
  match p.holder .edit with
  | some i => p.onSlot i fun x => { x with set := x.set.writeAll ws }
  | none => p

/-- SETW, its length tests passed (R140, R141). -/
def takeSetw (r : ReaderId) (ws : List FieldWrite) (s : State) : Answer :=
  match ws.find? fun w => !writeValid w with
  | some w => answer s .value [w.id]
  | none =>
    let clamped := ws.filter writeClamps
    let s1 := s.onReader r fun x => { x with params := x.params.writeEdit ws }
    if clamped.isEmpty then answer s1 .ok
    else answer s1 .clamped (BitVec.ofNat 8 clamped.length :: clamped.map (·.id))

/-- SETR (R142). -/
def takeSetr (r : ReaderId) (role : Byte) (s : State) : Answer :=
  match roleOf role with
  | none => answer s .value
  | some role =>
    match (s.rd r).params.holder role with
    | none => answer s .notFound
    | some i => answer s .ok
        (i.code :: fieldIds.flatMap fun id => leInt 4 (((s.rd r).params.slot i).set.get id))

/-- SETC (R143 to R145). The last two cases, in which no slot is EDIT or none is STAGED or SPARE, never arise (R137);
they change nothing. -/
def takeSetc (r : ReaderId) (s : State) : Answer :=
  let p := (s.rd r).params
  match (p.setOf .edit).inconsistency with
  | some id => answer s .inconsistent [BitVec.ofNat 8 id]
  | none =>
    match p.holder .edit, p.third with
    | some edit, some third =>
      answer (s.onReader r fun x => { x with params := x.params.commit edit third })
        (if (p.holder .staged).isSome then .superseded else .ok) [edit.code, third.code]
    | some _, none => answer s .inconsistent [0]
    | none, _ => answer s .inconsistent [0]

/-- The mask of HOLD, SYNC and RELS names a reader (section 8.3). -/
def maskNames (mask : Byte) (r : ReaderId) : Bool :=
  match r with
  | .a => mask.getLsbD 0
  | .b => mask.getLsbD 1

/-- HOLD, SYNC or RELS: acts says on which named readers the request has its effect, and f is that effect. The reply
carries a byte for each reader and is OK if either is (R148, R149). -/
def takeMasked (mask : Byte) (acts : Reader → Bool) (f : Reader → Reader) (s : State) : Answer :=
  if mask = 1 ∨ mask = 2 ∨ mask = 3 then
    let okA := maskNames mask .a && acts s.readerA
    let okB := maskNames mask .b && acts s.readerB
    let s1 := if okA then s.onReader .a f else s
    let s2 := if okB then s1.onReader .b f else s1
    let code := fun b : Bool => if b then Status.ok.code else Status.noEffect.code
    answer s2 (if okA || okB then .ok else .noEffect) [code okA, code okB]
  else answer s .value

def takeHold (mask : Byte) (s : State) : Answer :=
  takeMasked mask (fun x => !x.params.hold) (fun x => { x with params := { x.params with hold := true } }) s

def takeRels (mask : Byte) (s : State) : Answer :=
  takeMasked mask (fun x => x.params.hold) (fun x => { x with params := { x.params with hold := false } }) s

def takeSync (mask : Byte) (s : State) : Answer :=
  takeMasked mask (fun x => (x.params.holder .staged).isSome)
    (fun x => { x with params := { x.params with syncPending := true } }) s

/-! ## The splice schedule and the exclusion list (R92 to R95, R102, R103) -/

/-- SPLM (R92). -/
def takeSplm (r : ReaderId) (picture : BitVec 32) (s : State) : Answer :=
  let rd := s.rd r
  let due : Int := picture.toNat + rd.active.spliceOffset
  let entries := fun x : State => BitVec.ofNat 8 (x.rd r).schedule.length
  if rd.state = .stopped then answer s .state (le 4 0 ++ [entries s])
  else if due < 0 ∨ 2 ^ 32 - 1 < due then answer s .value (le 4 0 ++ [entries s])
  else if (if rd.state = .armed then due.toNat < rd.pendingStart else due.toNat ≤ rd.monitor.frameCount) then
    answer s .late (le 4 due.toNat ++ [entries s])
  else if rd.schedule.any (fun x => x.due == due.toNat) then answer s .noEffect (le 4 due.toNat ++ [entries s])
  else if Config.scheduleCapacity ≤ rd.schedule.length then answer s .full (le 4 due.toNat ++ [entries s])
  else
    let s1 := s.onReader r fun x =>
      { x with schedule := insertSplice x.schedule { picture := picture.toNat, due := due.toNat } }
    answer s1 .ok (le 4 due.toNat ++ [entries s1])

/-- SPLC (R94). -/
def takeSplc (r : ReaderId) (due : BitVec 32) (s : State) : Answer :=
  let rd := s.rd r
  if rd.schedule.any (fun x => x.due == due.toNat) then
    let s1 := s.onReader r fun x => { x with schedule := x.schedule.filter fun y => y.due != due.toNat }
    answer s1 .ok [BitVec.ofNat 8 (s1.rd r).schedule.length]
  else answer s .notFound [BitVec.ofNat 8 rd.schedule.length]

/-- SPLL (R95). -/
def takeSpll (r : ReaderId) (s : State) : Answer :=
  let rd := s.rd r
  answer s .ok (le 4 rd.monitor.frameCount ++ BitVec.ofNat 8 rd.schedule.length ::
    rd.schedule.flatMap fun x => le 4 x.picture ++ le 4 x.due)

/-- EXCA (R102). -/
def takeExca (r : ReaderId) (first last : BitVec 32) (s : State) : Answer :=
  let rd := s.rd r
  let ranges := fun x : State => [BitVec.ofNat 8 (x.rd r).exclusions.length]
  if rd.state = .stopped then answer s .state (ranges s)
  else if last.toNat < first.toNat then answer s .value (ranges s)
  else if last.toNat < (if rd.state = .armed then rd.pendingStart else rd.monitor.frameCount) then
    answer s .late (ranges s)
  else if rd.exclusions.any (fun x => x.first ≤ last.toNat && first.toNat ≤ x.last) then answer s .overlap (ranges s)
  else if Config.exclusionCapacity ≤ rd.exclusions.length then answer s .full (ranges s)
  else
    let s1 := s.onReader r fun x =>
      { x with exclusions := insertRange x.exclusions { first := first.toNat, last := last.toNat } }
    answer s1 .ok (ranges s1)

/-- EXCR (R103). -/
def takeExcr (r : ReaderId) (first : BitVec 32) (s : State) : Answer :=
  let rd := s.rd r
  if rd.exclusions.any (fun x => x.first == first.toNat) then
    let s1 := s.onReader r fun x => { x with exclusions := x.exclusions.filter fun y => y.first != first.toNat }
    answer s1 .ok [BitVec.ofNat 8 (s1.rd r).exclusions.length]
  else answer s .notFound [BitVec.ofNat 8 rd.exclusions.length]

/-- EXCL (R103). -/
def takeExcl (r : ReaderId) (s : State) : Answer :=
  let rd := s.rd r
  answer s .ok (le 4 rd.monitor.frameCount ++ BitVec.ofNat 8 rd.exclusions.length ::
    rd.exclusions.flatMap fun x => le 4 x.first ++ le 4 x.last)

/-! ## Capture (R164, R167, R168) -/

/-- The qualifier a CAPA carries, where its masks are defined (R164): kinds in bits 0 and 1, lanes 1, 2 or 3. -/
def qualifierOf (kindMask : Byte) (minPeak : BitVec 16) (laneMask : Byte) : Option Qualifier :=
  if (kindMask = 1 ∨ kindMask = 2 ∨ kindMask = 3) ∧ (laneMask = 1 ∨ laneMask = 2 ∨ laneMask = 3) then
    some { clicks := kindMask.getLsbD 0, splices := kindMask.getLsbD 1, minPeak := minPeak.toNat,
           lane0 := laneMask.getLsbD 0, lane1 := laneMask.getLsbD 1 }
  else none

/-- CAPA (R164). -/
def takeCapa (r : ReaderId) (kindMask : Byte) (minPeak : BitVec 16) (laneMask : Byte) (s : State) : Answer :=
  if (s.rd r).capture.state = .held then answer s .state
  else match qualifierOf kindMask minPeak laneMask with
    | none => answer s .value
    | some q => answer (s.onReader r fun x => { x with capture := { x.capture with state := .armed, qualifier := q } }) .ok

/-- The descriptor's 14 bytes (section 10.6). -/
def Descriptor.bytes (d : Descriptor) : List Byte :=
  le 4 d.number ++ d.kind.code :: BitVec.ofNat 8 d.lanes :: (le 6 d.first ++ le 2 d.count)

def Capture.copy (c : Capture) : Lane → List Sample
  | .lane0 => c.copy0
  | .lane1 => c.copy1

/-- The lane is among the lanes captured. -/
def Descriptor.hasLane (d : Descriptor) : Lane → Bool
  | .lane0 => d.lanes % 2 == 1
  | .lane1 => d.lanes / 2 % 2 == 1

/-- The three bytes of a sample (section 10.6). -/
def sampleBytes (x : Sample) : List Byte := le 3 x.toNat

/-- CAPR (R167). -/
def takeCapr (r : ReaderId) (lane : Byte) (offset count : BitVec 16) (s : State) : Answer :=
  let c := (s.rd r).capture
  if c.state ≠ .held then answer s .notHeld
  else match laneOf lane with
    | none => answer s .value
    | some l =>
      if count.toNat = 0 ∨ Config.captureSamples < count.toNat ∨ c.descriptor.count < offset.toNat + count.toNat then
        answer s .value
      else if c.descriptor.hasLane l then
        answer s .ok (c.descriptor.bytes ++ lane :: (bytes16 offset ++ bytes16 count ++
          (((c.copy l).drop offset.toNat).take count.toNat).flatMap sampleBytes))
      else answer s .notFound

/-- CAPX (R168). -/
def takeCapx (r : ReaderId) (s : State) : Answer :=
  let c := (s.rd r).capture
  if c.state ≠ .held then answer s .notHeld
  else answer (s.onReader r fun x => { x with capture := { x.capture with state := .disarmed, missed := false } }) .ok
    [boolCode c.missed]

/-! ## The alert watch (R170, R171) -/

/-- WTCH (R170). The evaluation at arming follows as the request is taken (takeRequest). -/
def takeWtch (r : ReaderId) (mask : BitVec 16) (mode : Byte) (s : State) : Answer :=
  match watchModeOf mode with
  | none => answer s .value
  | some m =>
    if mask = 0 ∨ mask &&& ~~~conditionBits ≠ 0 then answer s .value
    else answer (s.onReader r fun x => { x with watch := { armed := true, mask := mask, mode := m } }) .ok
      (bytes16 (s.conditions r))

/-- WTCD (R171). -/
def takeWtcd (r : ReaderId) (s : State) : Answer :=
  if (s.rd r).watch.armed then
    answer (s.onReader r fun x => { x with watch := { x.watch with armed := false } }) .ok
  else answer s .noEffect

/-! ## Reading the state (R122, R172, R184) -/

/-- The fields of the STAT reply after the status (R172 and the STAT table of section 10.6). -/
def statFields (s : State) (r : ReaderId) : List Byte :=
  let rd := s.rd r
  let m := rd.monitor
  rd.state.code :: rd.laneMode.code :: (le 6 rd.index
    ++ m.state.code :: (le 4 m.smoothed ++ le 4 m.frameCount ++ le 2 m.glitches)
    ++ [laneConditions rd.lane0.stuck rd.lane1.stuck rd.clockLost,
        rd.params.slot0.role.code, rd.params.slot1.role.code, rd.params.slot2.role.code, rd.params.flags]
    ++ le 2 rd.unrecorded ++ boolCode rd.gap :: le 4 rd.committedTotal
    ++ [BitVec.ofNat 8 rd.table.length, BitVec.ofNat 8 rd.schedule.length, BitVec.ofNat 8 rd.exclusions.length,
        BitVec.ofNat 8 rd.lane0.hiss.step, BitVec.ofNat 8 rd.lane1.hiss.step,
        rd.capture.state.code, boolCode rd.capture.toggle, boolCode rd.capture.missed, boolCode rd.watch.armed]
    ++ bytes16 rd.watch.mask ++ rd.watch.mode.code ::
       [BitVec.ofNat 8 s.queue.records.length, BitVec.ofNat 8 s.queue.dfctCount, boolCode s.queue.enabled,
        boolCode s.queue.lost, boolCode s.link.linkFault])

/-- STAT (R172): the reply, then the unrecorded counter becomes 0 and the link-fault flag is cleared. -/
def takeStat (r : ReaderId) (s : State) : Answer :=
  answer ((s.onReader r fun x => { x with unrecorded := 0 }).onLink fun k => { k with linkFault := false }) .ok
    (statFields s r)

/-- One lane's state of a slot in the HUMR reply. -/
def HumLaneSlot.bytes (x : HumLaneSlot) : List Byte :=
  x.status.code :: (leInt 3 x.wc ++ leInt 3 x.ws ++ [BitVec.ofNat 8 x.faultRun])

/-- One slot of the HUMR reply, 32 bytes. -/
def humSlotBytes (rd : Reader) (i : Fin 12) : List Byte :=
  let c := rd.active.hum[i]
  boolCode c.enabled :: c.source.code :: BitVec.ofNat 8 c.order :: (le 4 c.fixedInc ++ BitVec.ofNat 8 c.shift ::
    (le 4 rd.hum.slots[i].delta.toNat ++ le 4 rd.hum.slots[i].theta.toNat ++ rd.lane0.hum[i].bytes ++ rd.lane1.hum[i].bytes))

/-- HUMR (R122 and the HUMR table of section 10.6). -/
def takeHumr (r : ReaderId) (s : State) : Answer :=
  let rd := s.rd r
  let p := rd.active
  answer s .ok (le 4 rd.monitor.smoothed ++
    BitVec.ofNat 8 p.monitorPeriod :: BitVec.ofNat 8 rd.hum.periodCounter :: boolCode rd.hum.humFault ::
    BitVec.ofNat 8 p.mains :: (le 2 p.nominalRate ++ (List.finRange 12).flatMap (humSlotBytes rd)))

/-- IDNT (R184). -/
def takeIdnt (s : State) : Answer :=
  answer s .ok (le 2 0x0340 ++ [1, boolCode s.link.rate] ++ le 2 Config.windowLength ++
    [BitVec.ofNat 8 Config.tableCapacity, BitVec.ofNat 8 Config.scheduleCapacity, BitVec.ofNat 8 Config.exclusionCapacity,
     BitVec.ofNat 8 Config.queueCapacity, BitVec.ofNat 8 Config.dfctLimit] ++ le 2 Config.captureSamples ++ [12, 83])

/-! ## The report queue and the reset (R162, R185) -/

/-- REPT (R162): setting 0 is OFF and 1 is ON. -/
def takeRept (setting : Byte) (s : State) : Answer :=
  let counts := [BitVec.ofNat 8 s.queue.records.length, BitVec.ofNat 8 s.queue.dfctCount]
  let on := decide (setting = 1)
  if setting = 0 ∨ setting = 1 then
    if s.queue.enabled = on then answer s .noEffect counts
    else answer (s.onQueue fun q => { q with enabled := on }) .ok counts
  else answer s .value

/-- RSET (R185): the reply is made ready, and the reset waits for its last byte. -/
def takeRset (s : State) : Answer := answer s .ok

/-! ## Taking a request (R179, R180) -/

/-- Test 4 of R179 for a request that names a reader. -/
def takeForReader (r : ReaderId) (q : Request) (s : State) : Answer :=
  match q with
  | .strt _ m o f => takeStrt r m o f s
  | .stop _ => takeStop r s
  | .byps _ x => takeByps r x s
  | .setw _ ws => takeSetw r ws s
  | .setr _ x => takeSetr r x s
  | .setc _ => takeSetc r s
  | .splm _ f => takeSplm r f s
  | .splc _ f => takeSplc r f s
  | .spll _ => takeSpll r s
  | .exca _ f g => takeExca r f g s
  | .excr _ f => takeExcr r f s
  | .excl _ => takeExcl r s
  | .capa _ k p m => takeCapa r k p m s
  | .capr _ l o n => takeCapr r l o n s
  | .capx _ => takeCapx r s
  | .wtch _ m x => takeWtch r m x s
  | .wtcd _ => takeWtcd r s
  | .stat _ => takeStat r s
  | .humr _ => takeHumr r s
  | .hold m => takeHold m s
  | .sync m => takeSync m s
  | .rels m => takeRels m s
  | .rept x => takeRept x s
  | .idnt => takeIdnt s
  | .rset => takeRset s

/-- A request judged by tests 2 to 4 of R179; the reader stands in for none where the request has no reader field. -/
def judgeRequest (q : Request) (s : State) : Answer :=
  if q.lengthOk then
    match q.readerField with
    | none => takeForReader .a q s
    | some b =>
      match readerOf b with
      | some r => takeForReader r q s
      | none => answer s .reader
  else answer s .length

/-- The type of the reply to a request's type (R180). -/
def replyType (type : Byte) : Byte := if type.toNat < 0x80 then type + 0x80 else 0xFF

/-- A reply becomes outstanding, and ready (R178, R179); then the watches are evaluated (R170, R186). -/
def becomeOutstanding (type tag : Byte) (isRset : Bool) (a : Answer) : State :=
  let rep : Reply := { type := replyType type, tag := tag, payload := a.payload, isRset := isRset }
  (a.state.onLink fun k => { k with reply := some rep }).evaluateWatches

/-- A request that is taken (R179, R180). -/
def takeRequest (tag : Byte) (q : Request) (s : State) : State :=
  becomeOutstanding q.code tag (q == .rset) (judgeRequest q s)

/-- A good frame that is taken: test 1 and the length test on its bytes, then the request (R179). -/
def takeFrame (f : Frame) (s : State) : State :=
  match decodeRequest f.type f.payload with
  | .unknown => becomeOutstanding f.type f.tag false (answer s .unknown)
  | .badLength => becomeOutstanding f.type f.tag false (answer s .length)
  | .request q => takeRequest f.tag q s

end Sys2Proof.Machine
end

