-- ==== Sys2Proof/Machine/ControlLink.lean ====
section
/-! DEFINITION. The control link (spec/10_control_link_and_messages.md): the receiver, the one pending request, the
transmitter's messages, and the resets of the whole part. -/

namespace Sys2Proof.Machine

/-! ## The receiver (R175, R176) -/

/-- What the receiver makes of the bytes it takes: a frame discarded, or a good frame handed on. -/
inductive RxEvent where
  | discard
  | frame (f : Frame)
deriving DecidableEq, Repr

/-- The state of the receiver, with what it handed on. -/
structure RxResult where
  receiver : Receiver
  events : List RxEvent
deriving DecidableEq, Repr

/-- HUNT, with nothing kept. -/
def Receiver.hunting : Receiver := { state := .hunt, kept := [] }

/-- The frame of type, tag and payload that a good body of a given length spells. -/
def frameOfBody (body : List Byte) (length : Nat) : Frame :=
  { type := body.getD 0 0, tag := body.getD 1 0, payload := (body.take length).drop 2 }

/-- Bytes examined in HUNT, in the order of their arrival (R175, R176). Bytes before a sync are dropped. After a sync the
bytes fill the length and the body; a frame whose length is out of range or whose checksum fails is discarded, and the
bytes after its sync are examined again. Each round drops a sync, so as many rounds as there are bytes suffice. -/
def examine : Nat → List Byte → RxResult
  | 0, _ => { receiver := Receiver.hunting, events := [] }
  | fuel + 1, bytes =>
    match bytes.dropWhile (· != syncByte) with
    | [] => { receiver := Receiver.hunting, events := [] }
    | [_] => { receiver := { state := .length, kept := [] }, events := [] }
    | [_, lo] => { receiver := { state := .length, kept := [lo] }, events := [] }
    | _ :: lo :: hi :: body =>
      let length := lo.toNat + 256 * hi.toNat
      if length < 2 ∨ 1026 < length then
        let again := examine fuel (lo :: hi :: body)
        { again with events := .discard :: again.events }
      else if body.length < length then { receiver := { state := .body, kept := lo :: hi :: body }, events := [] }
      else if body.length = length then { receiver := { state := .check, kept := lo :: hi :: body }, events := [] }
      else if byteSum (lo :: hi :: body.take (length + 1)) = 0 then
        let after := examine fuel (body.drop (length + 1))
        { after with events := .frame (frameOfBody body length) :: after.events }
      else
        let again := examine fuel (lo :: hi :: body)
        { again with events := .discard :: again.events }

/-- The bytes examined when a byte arrives: in mid-frame, the frame's sync and what was kept since it, then the byte. -/
def Receiver.held (rx : Receiver) (b : Byte) : List Byte :=
  match rx.state with
  | .hunt => [b]
  | .length => syncByte :: (rx.kept ++ [b])
  | .body => syncByte :: (rx.kept ++ [b])
  | .check => syncByte :: (rx.kept ++ [b])

/-- The receiver as a byte with a good stop bit arrives (R175). -/
def Receiver.take (rx : Receiver) (b : Byte) : RxResult := examine ((rx.held b).length + 1) (rx.held b)

/-! ## Dispatch and the pending request (R178) -/

/-- A frame is discarded: the link-fault flag is set (R176, R183). -/
def discardFrame (s : State) : State := s.onLink fun k => { k with linkFault := true }

/-- A good frame that finds a reply outstanding: held as the pending request, or discarded where one is held (R178). -/
def holdFrame (f : Frame) (s : State) : State :=
  match s.link.pendingRequest with
  | none => s.onLink fun k => { k with pendingRequest := some f }
  | some _ => discardFrame s

/-- A good frame handed on by the receiver (R178). -/
def dispatchFrame (f : Frame) (s : State) : State :=
  match s.link.reply with
  | none => takeFrame f s
  | some _ => holdFrame f s

/-- A request row: the good frame that carries the request arrives (R178, log entry 1). -/
def dispatchRequest (tag : Byte) (q : Request) (s : State) : State :=
  match s.link.reply with
  | none => takeRequest tag q s
  | some _ => holdFrame (q.frame tag) s

/-- What the receiver handed on, one after another. -/
def RxEvent.act (s : State) : RxEvent → State
  | .discard => discardFrame s
  | .frame f => dispatchFrame f s

/-- A byte arrives on RXD (R175): one with a missing stop bit is dropped in HUNT, and discards the frame in progress
elsewhere; the bytes of that frame are not examined again (R176). -/
def receiveByte (b : Byte) (framingError : Bool) (s : State) : State :=
  if framingError then
    match s.link.receiver.state with
    | .hunt => s
    | .length => discardFrame (s.onLink fun k => { k with receiver := Receiver.hunting })
    | .body => discardFrame (s.onLink fun k => { k with receiver := Receiver.hunting })
    | .check => discardFrame (s.onLink fun k => { k with receiver := Receiver.hunting })
  else
    let out := s.link.receiver.take b
    out.events.foldl RxEvent.act (s.onLink fun k => { k with receiver := out.receiver })

/-- 2 ms without a start bit in mid-frame (R177); in HUNT no interval is timed. -/
def interByteTimeout (s : State) : State :=
  match s.link.receiver.state with
  | .hunt => s
  | .length => discardFrame (s.onLink fun k => { k with receiver := Receiver.hunting })
  | .body => discardFrame (s.onLink fun k => { k with receiver := Receiver.hunting })
  | .check => discardFrame (s.onLink fun k => { k with receiver := Receiver.hunting })

/-- The pending request is taken once no reply is outstanding (R178). -/
def takePending (s : State) : State :=
  match s.link.reply, s.link.pendingRequest with
  | none, some f => takeFrame f (s.onLink fun k => { k with pendingRequest := none })
  | none, none => s
  | some _, _ => s

/-! ## The resets (R22, R185) -/

/-- The whole part at its reset values, with the RATE strap at a level and sampled (R173, R185). The commands that wait,
the CTS pin and the count of free values are not the part's to reset (log entry 25). -/
def resetPart (rate : Bool) (s : State) : State :=
  { State.reset with
    cts := s.cts, ratePin := rate, freeTick := s.freeTick, pending := s.pending
    link := { Link.reset with rate := rate } }

/-- The RSET reply is being sent, so that the end of the message resets the part (R185). -/
def Link.resetAwaits (k : Link) : Bool :=
  match k.transmitter, k.reply with
  | .reply _, some rep => rep.isRset
  | .reply _, none => false
  | .idle, _ => false
  | .report _, _ => false

/-! ## The end of a message (R161, R178) -/

/-- The last byte of a report record has been sent: the record leaves the queue (R161). -/
def recordSent (s : State) : State :=
  ((s.onQueue fun q => { q with records := q.records.tail }).onLink fun k =>
    { k with transmitter := .idle }).evaluateWatches

/-- The last byte of a reply has been sent: it is no longer outstanding, and the pending request, if one is held, is
taken at that moment (R178). -/
def replySent (s : State) : State :=
  takePending (s.onLink fun k => { k with transmitter := .idle, reply := none })

/-- The end of the message in transmission (R161, R178, R185). -/
def messageSent (s : State) : State :=
  match s.link.transmitter with
  | .idle => s
  | .report _ => recordSent s
  | .reply _ => if s.link.resetAwaits then resetPart s.ratePin s else replySent s

/-- The CTS pin takes a level (R160, log entry 6). -/
def setCts (level : Bool) (s : State) : State := { s with cts := level }

end Sys2Proof.Machine
end

