-- ==== Sys2Proof/Machine/ExecEvents.lean ====
section
/-! DEFINITION. The meanings of the rows that a transport or the part itself brings about. A row of an event
that the part brings about acts when that event is due, and changes nothing otherwise (log entry 2). -/

namespace Sys2Proof.Machine

/-! ## Due events (log entry 2) -/

/-- The reader's own events can come about: its run goes on and its clock runs (R2, R19). -/
def Reader.eventsAct (rd : Reader) : Bool := rd.started && !rd.clockLost

/-- A close of a run or an end of saturation can come about: in RUNNING, as the entry event would find it. A merge gap
that an apply has lowered is compared at the next entry only (R58). -/
def Reader.judgementsAct (rd : Reader) : Bool := rd.state == .running && !rd.clockLost && !rd.appliedSince

/-- RUN_CLOSE with its watches (R50, R186). -/
def runCloses (r : ReaderId) (l : Lane) (s : State) : State := (closeRunNow r l s).evaluateWatches

/-- The CLOSED entries at which a test holds commit in table order (R73). -/
def commitDue (r : ReaderId) (test : Nat → Defect → Bool) (s : State) : State :=
  commitAll r (positions (s.rd r).table (test (s.rd r).entered)) s

/-- WINDOW_DEADLINE: OPEN entries at their deadline close, and the CLOSED entries at theirs commit (R71). -/
def deadlinePasses (r : ReaderId) (s : State) : State :=
  commitDue r (fun n d => d.dueDeadline n) (s.onReader r Reader.closeAtDeadline)

/-- The completion of the hiss block of a lane (R129, R130). -/
def completeHissBlock (l : Lane) (rd : Reader) : Reader :=
  rd.onLane l fun ln => { ln with hiss := ln.hiss.completeBlock rd.active }

/-- A hiss block is complete on a lane in RUNNING with the filter enabled (R128, R129). -/
def Reader.hissBlockDue (rd : Reader) (l : Lane) : Bool :=
  rd.state == .running && rd.active.hissEnable && (rd.lane l).hiss.blockDue

/-! ## Events of a transport -/

/-- ENTRY_EVENT (R2, R3). -/
def execEntryEvent (r : ReaderId) (x0 x1 : Sample) (first : Lane) (s : State) : Host.Outcome State Fault Refusal :=
  .next (entryEvent r x0 x1 first s).arbitrate

/-- REAL_PULSE (R23). -/
def execRealPulse (r : ReaderId) (s : State) : Host.Outcome State Fault Refusal :=
  .next (realPulse r s).arbitrate

/-- CLOCK_LOST (R19). -/
def execClockLost (r : ReaderId) (s : State) : Host.Outcome State Fault Refusal :=
  .next (loseClock r s).arbitrate

/-- CLOCK_BACK (R19). -/
def execClockBack (r : ReaderId) (s : State) : Host.Outcome State Fault Refusal :=
  .next (regainClock r s).arbitrate

/-! ## Events the part brings about -/

/-- LANE_STUCK (R15). -/
def execLaneStuck (r : ReaderId) (s : State) : Host.Outcome State Fault Refusal :=
  .next (if (s.rd r).stuckDue then lanesBecomeStuck r s else s).arbitrate

/-- HOLDOVER_ENTRY (R32). -/
def execHoldoverEntry (r : ReaderId) (s : State) : Host.Outcome State Fault Refusal :=
  .next (if (s.rd r).holdoverDue then holdoverEntry r s else s).arbitrate

/-- VIRTUAL_TICK (R33, R35). -/
def execVirtualTick (r : ReaderId) (s : State) : Host.Outcome State Fault Refusal :=
  .next (if (s.rd r).tickDue then virtualTick r s else s).arbitrate

/-- FREE_ENTRY (R33): the tick that takes the holdover tick count to H. -/
def execFreeEntry (r : ReaderId) (s : State) : Host.Outcome State Fault Refusal :=
  .next (if (s.rd r).freeDue then virtualTick r s else s).arbitrate

/-- RUN_CLOSE (R50). -/
def execRunClose (r : ReaderId) (l : Lane) (s : State) : Host.Outcome State Fault Refusal :=
  .next (if (s.rd r).judgementsAct && (s.rd r).closeDue l then runCloses r l s else s).arbitrate

/-- SATURATION_END (R53). -/
def execSaturationEnd (r : ReaderId) (l : Lane) (s : State) : Host.Outcome State Fault Refusal :=
  .next (if (s.rd r).judgementsAct && (s.rd r).saturationDue l then endSaturation r l s else s).arbitrate

/-- POST_CONTEXT_COMPLETE (R69). -/
def execPostContextComplete (r : ReaderId) (s : State) : Host.Outcome State Fault Refusal :=
  .next (if (s.rd r).eventsAct then commitDue r (fun n d => d.dueComplete n) s else s).arbitrate

/-- CUT_COMMIT_AT_B (R70). -/
def execCutCommitAtB (r : ReaderId) (s : State) : Host.Outcome State Fault Refusal :=
  .next (if (s.rd r).eventsAct then commitDue r (fun n d => d.dueCut n) s else s).arbitrate

/-- WINDOW_DEADLINE (R71). -/
def execWindowDeadline (r : ReaderId) (s : State) : Host.Outcome State Fault Refusal :=
  .next (if (s.rd r).eventsAct then deadlinePasses r s else s).arbitrate

/-- SPLICE_CLOSE (R100). -/
def execSpliceClose (r : ReaderId) (s : State) : Host.Outcome State Fault Refusal :=
  .next (if (s.rd r).eventsAct then s.onReader r Reader.closeSplices else s).arbitrate

/-- ENTRY_REMOVAL (R67). -/
def execEntryRemoval (r : ReaderId) (s : State) : Host.Outcome State Fault Refusal :=
  .next (if (s.rd r).eventsAct then s.onReader r Reader.removeLeft else s).arbitrate

/-- PERIOD_END (R117, R118), of the last frame event. -/
def execPeriodEnd (r : ReaderId) (s : State) : Host.Outcome State Fault Refusal :=
  .next (if (s.rd r).periodDue then endPeriod r (s.rd r).monitor.lastEvent s else s).arbitrate

/-- HISS_BLOCK_COMPLETE (R130). -/
def execHissBlockComplete (r : ReaderId) (l : Lane) (s : State) : Host.Outcome State Fault Refusal :=
  .next (if (s.rd r).hissBlockDue l then s.onReader r (completeHissBlock l) else s).arbitrate

end Sys2Proof.Machine
end

