-- ==== Sys2Proof/Machine/ExecLink.lean ====
section
/-! DEFINITION. The meanings of the resets and of the control link's rows. -/

namespace Sys2Proof.Machine

/-- POWER_ON (R22, R173): every block takes its reset values. -/
def execPowerOn (rate : Bool) (s : State) : Host.Outcome State Fault Refusal :=
  .next (resetPart rate s).arbitrate

/-- RESET (R185): the last byte of the RSET reply has been sent; without such a reply the row changes nothing (log entry 27). -/
def execReset (rate : Bool) (s : State) : Host.Outcome State Fault Refusal :=
  .next (if s.link.resetAwaits then resetPart rate s else s).arbitrate

/-- RECEIVE_BYTE (R175). -/
def execReceiveByte (byte : Byte) (framingError : Bool) (s : State) : Host.Outcome State Fault Refusal :=
  .next (receiveByte byte framingError s).arbitrate

/-- INTER_BYTE_TIMEOUT (R177). -/
def execInterByteTimeout (s : State) : Host.Outcome State Fault Refusal :=
  .next (interByteTimeout s).arbitrate

/-- PENDING_REQUEST_TAKEN (R178). -/
def execPendingRequestTaken (s : State) : Host.Outcome State Fault Refusal :=
  .next (takePending s).arbitrate

/-- CTS_ASSERTED (R160): the pin takes a level (log entry 6). -/
def execCtsAsserted (level : Bool) (s : State) : Host.Outcome State Fault Refusal :=
  .next (setCts level s).arbitrate

/-- MESSAGE_SENT (R161, R178). -/
def execMessageSent (s : State) : Host.Outcome State Fault Refusal :=
  .next (messageSent s).arbitrate

end Sys2Proof.Machine
end

