-- ==== Sys2Proof/Machine/ExecRequests.lean ====
section
/-! DEFINITION. The meanings of the request rows: the good frame that carries the request arrives, and is
taken, held or discarded (R178, R179, log entry 1); then the arbiter chooses (R160, log entry 21). -/

namespace Sys2Proof.Machine

/-- IDNT (R184). -/
def execIdnt (tag : Byte) (s : State) : Host.Outcome State Fault Refusal :=
  .next (dispatchRequest tag .idnt s).arbitrate

/-- STRT with option IMMEDIATE, code 0 (R7, R8). -/
def execStrtImmediate (tag reader laneMode : Byte) (startFrame : BitVec 32) (s : State) : Host.Outcome State Fault Refusal :=
  .next (dispatchRequest tag (.strt reader laneMode 0 startFrame) s).arbitrate

/-- STRT with option AT-FRAME, code 1 (R7). -/
def execStrtAtFrame (tag reader laneMode : Byte) (startFrame : BitVec 32) (s : State) : Host.Outcome State Fault Refusal :=
  .next (dispatchRequest tag (.strt reader laneMode 1 startFrame) s).arbitrate

/-- STOP (R10). -/
def execStop (tag reader : Byte) (s : State) : Host.Outcome State Fault Refusal :=
  .next (dispatchRequest tag (.stop reader) s).arbitrate

/-- BYPS with setting ON, code 1 (R11, R12). -/
def execBypsOn (tag reader : Byte) (s : State) : Host.Outcome State Fault Refusal :=
  .next (dispatchRequest tag (.byps reader 1) s).arbitrate

/-- BYPS with setting OFF, code 0 (R11, R13). -/
def execBypsOff (tag reader : Byte) (s : State) : Host.Outcome State Fault Refusal :=
  .next (dispatchRequest tag (.byps reader 0) s).arbitrate

/-- SETW (R140, R141). -/
def execSetw (tag reader : Byte) (writes : List FieldWrite) (s : State) : Host.Outcome State Fault Refusal :=
  .next (dispatchRequest tag (.setw reader writes) s).arbitrate

/-- SETR (R142). -/
def execSetr (tag reader role : Byte) (s : State) : Host.Outcome State Fault Refusal :=
  .next (dispatchRequest tag (.setr reader role) s).arbitrate

/-- SETC (R143 to R145). -/
def execSetc (tag reader : Byte) (s : State) : Host.Outcome State Fault Refusal :=
  .next (dispatchRequest tag (.setc reader) s).arbitrate

/-- HOLD (R148). -/
def execHold (tag mask : Byte) (s : State) : Host.Outcome State Fault Refusal :=
  .next (dispatchRequest tag (.hold mask) s).arbitrate

/-- SYNC (R149). -/
def execSync (tag mask : Byte) (s : State) : Host.Outcome State Fault Refusal :=
  .next (dispatchRequest tag (.sync mask) s).arbitrate

/-- RELS (R148). -/
def execRels (tag mask : Byte) (s : State) : Host.Outcome State Fault Refusal :=
  .next (dispatchRequest tag (.rels mask) s).arbitrate

/-- SPLM (R92). -/
def execSplm (tag reader : Byte) (picture : BitVec 32) (s : State) : Host.Outcome State Fault Refusal :=
  .next (dispatchRequest tag (.splm reader picture) s).arbitrate

/-- SPLC (R94). -/
def execSplc (tag reader : Byte) (due : BitVec 32) (s : State) : Host.Outcome State Fault Refusal :=
  .next (dispatchRequest tag (.splc reader due) s).arbitrate

/-- SPLL (R95). -/
def execSpll (tag reader : Byte) (s : State) : Host.Outcome State Fault Refusal :=
  .next (dispatchRequest tag (.spll reader) s).arbitrate

/-- EXCA (R102). -/
def execExca (tag reader : Byte) (first last : BitVec 32) (s : State) : Host.Outcome State Fault Refusal :=
  .next (dispatchRequest tag (.exca reader first last) s).arbitrate

/-- EXCR (R103). -/
def execExcr (tag reader : Byte) (first : BitVec 32) (s : State) : Host.Outcome State Fault Refusal :=
  .next (dispatchRequest tag (.excr reader first) s).arbitrate

/-- EXCL (R103). -/
def execExcl (tag reader : Byte) (s : State) : Host.Outcome State Fault Refusal :=
  .next (dispatchRequest tag (.excl reader) s).arbitrate

/-- CAPA (R164). -/
def execCapa (tag reader kindMask : Byte) (minPeak : BitVec 16) (laneMask : Byte) (s : State) : Host.Outcome State Fault Refusal :=
  .next (dispatchRequest tag (.capa reader kindMask minPeak laneMask) s).arbitrate

/-- CAPR (R167). -/
def execCapr (tag reader lane : Byte) (offset count : BitVec 16) (s : State) : Host.Outcome State Fault Refusal :=
  .next (dispatchRequest tag (.capr reader lane offset count) s).arbitrate

/-- CAPX (R168). -/
def execCapx (tag reader : Byte) (s : State) : Host.Outcome State Fault Refusal :=
  .next (dispatchRequest tag (.capx reader) s).arbitrate

/-- WTCH (R170). -/
def execWtch (tag reader : Byte) (mask : BitVec 16) (mode : Byte) (s : State) : Host.Outcome State Fault Refusal :=
  .next (dispatchRequest tag (.wtch reader mask mode) s).arbitrate

/-- WTCD (R171). -/
def execWtcd (tag reader : Byte) (s : State) : Host.Outcome State Fault Refusal :=
  .next (dispatchRequest tag (.wtcd reader) s).arbitrate

/-- STAT (R172). -/
def execStat (tag reader : Byte) (s : State) : Host.Outcome State Fault Refusal :=
  .next (dispatchRequest tag (.stat reader) s).arbitrate

/-- HUMR (R122). -/
def execHumr (tag reader : Byte) (s : State) : Host.Outcome State Fault Refusal :=
  .next (dispatchRequest tag (.humr reader) s).arbitrate

/-- REPT with setting ON, code 1 (R162). -/
def execReptOn (tag : Byte) (s : State) : Host.Outcome State Fault Refusal :=
  .next (dispatchRequest tag (.rept 1) s).arbitrate

/-- REPT with setting OFF, code 0 (R162). -/
def execReptOff (tag : Byte) (s : State) : Host.Outcome State Fault Refusal :=
  .next (dispatchRequest tag (.rept 0) s).arbitrate

/-- RSET (R185). -/
def execRset (tag : Byte) (s : State) : Host.Outcome State Fault Refusal :=
  .next (dispatchRequest tag .rset s).arbitrate

end Sys2Proof.Machine
end

