-- ==== Sys2Proof/Machine/Dispatch.lean ====
section
/-! DEFINITION. One arm for each command: its meaning. -/

namespace Sys2Proof.Machine

def exec (i : Instr) (s : State) : Host.Outcome State Fault Refusal :=
  match i with
  | .powerOn rate => Sys2Proof.Machine.execPowerOn rate s
  | .reset rate => Sys2Proof.Machine.execReset rate s
  | .idnt tag => Sys2Proof.Machine.execIdnt tag s
  | .strtImmediate tag reader laneMode startFrame => Sys2Proof.Machine.execStrtImmediate tag reader laneMode startFrame s
  | .strtAtFrame tag reader laneMode startFrame => Sys2Proof.Machine.execStrtAtFrame tag reader laneMode startFrame s
  | .stop tag reader => Sys2Proof.Machine.execStop tag reader s
  | .bypsOn tag reader => Sys2Proof.Machine.execBypsOn tag reader s
  | .bypsOff tag reader => Sys2Proof.Machine.execBypsOff tag reader s
  | .setw tag reader writes => Sys2Proof.Machine.execSetw tag reader writes s
  | .setr tag reader role => Sys2Proof.Machine.execSetr tag reader role s
  | .setc tag reader => Sys2Proof.Machine.execSetc tag reader s
  | .hold tag mask => Sys2Proof.Machine.execHold tag mask s
  | .sync tag mask => Sys2Proof.Machine.execSync tag mask s
  | .rels tag mask => Sys2Proof.Machine.execRels tag mask s
  | .splm tag reader picture => Sys2Proof.Machine.execSplm tag reader picture s
  | .splc tag reader due => Sys2Proof.Machine.execSplc tag reader due s
  | .spll tag reader => Sys2Proof.Machine.execSpll tag reader s
  | .exca tag reader first last => Sys2Proof.Machine.execExca tag reader first last s
  | .excr tag reader first => Sys2Proof.Machine.execExcr tag reader first s
  | .excl tag reader => Sys2Proof.Machine.execExcl tag reader s
  | .capa tag reader kindMask minPeak laneMask => Sys2Proof.Machine.execCapa tag reader kindMask minPeak laneMask s
  | .capr tag reader lane offset count => Sys2Proof.Machine.execCapr tag reader lane offset count s
  | .capx tag reader => Sys2Proof.Machine.execCapx tag reader s
  | .wtch tag reader mask mode => Sys2Proof.Machine.execWtch tag reader mask mode s
  | .wtcd tag reader => Sys2Proof.Machine.execWtcd tag reader s
  | .stat tag reader => Sys2Proof.Machine.execStat tag reader s
  | .humr tag reader => Sys2Proof.Machine.execHumr tag reader s
  | .reptOn tag => Sys2Proof.Machine.execReptOn tag s
  | .reptOff tag => Sys2Proof.Machine.execReptOff tag s
  | .rset tag => Sys2Proof.Machine.execRset tag s
  | .entryEvent r x0 x1 first => Sys2Proof.Machine.execEntryEvent r x0 x1 first s
  | .realPulse r => Sys2Proof.Machine.execRealPulse r s
  | .clockLost r => Sys2Proof.Machine.execClockLost r s
  | .clockBack r => Sys2Proof.Machine.execClockBack r s
  | .laneStuck r => Sys2Proof.Machine.execLaneStuck r s
  | .holdoverEntry r => Sys2Proof.Machine.execHoldoverEntry r s
  | .virtualTick r => Sys2Proof.Machine.execVirtualTick r s
  | .freeEntry r => Sys2Proof.Machine.execFreeEntry r s
  | .runClose r l => Sys2Proof.Machine.execRunClose r l s
  | .saturationEnd r l => Sys2Proof.Machine.execSaturationEnd r l s
  | .postContextComplete r => Sys2Proof.Machine.execPostContextComplete r s
  | .cutCommitAtB r => Sys2Proof.Machine.execCutCommitAtB r s
  | .windowDeadline r => Sys2Proof.Machine.execWindowDeadline r s
  | .spliceClose r => Sys2Proof.Machine.execSpliceClose r s
  | .entryRemoval r => Sys2Proof.Machine.execEntryRemoval r s
  | .periodEnd r => Sys2Proof.Machine.execPeriodEnd r s
  | .hissBlockComplete r l => Sys2Proof.Machine.execHissBlockComplete r l s
  | .receiveByte byte framingError => Sys2Proof.Machine.execReceiveByte byte framingError s
  | .interByteTimeout => Sys2Proof.Machine.execInterByteTimeout s
  | .pendingRequestTaken => Sys2Proof.Machine.execPendingRequestTaken s
  | .ctsAsserted level => Sys2Proof.Machine.execCtsAsserted level s
  | .messageSent => Sys2Proof.Machine.execMessageSent s

end Sys2Proof.Machine
end

