-- ==== Sys2Proof/Safety.lean ====
section
/-! DEFINITION. What a sound state of the part is, and the terms in which claims about its commands are stated: what the
end of a command may still do, the answers to requests, and the requests that the rows carry. -/

namespace Sys2Proof.Machine

/-! ## What the end of a command may still do

After a command's own effects the watches are evaluated (R170, R186) and the arbiter chooses (R160). -/

/-- A reader but for whether its watch is armed. -/
def Reader.calm (rd : Reader) : Reader := { rd with watch := { rd.watch with armed := false } }

/-- The other reader. -/
def otherReader : ReaderId → ReaderId
  | .a => .b
  | .b => .a

def ReportBody.isAlrt : ReportBody → Bool
  | .alrt _ _ _ _ _ => true
  | .dfct _ => false
  | .frms _ _ _ _ _ => false
  | .apld _ _ _ _ _ => false
  | .hums _ _ _ _ => false
  | .lane _ _ _ _ _ _ _ _ => false
  | .capd _ _ _ _ _ => false

/-- The reports of the queue without their report-lost fields, oldest first. -/
def ReportQueue.bodies (q : ReportQueue) : List (ReaderId × ReportBody) := q.records.map fun x => (x.reader, x.body)

/-- From the state s that a command's own effects leave to the state t after it, nothing changes but what watches and
arbiter move: a watch may be disarmed, and the transmitter may take up a message. -/
structure Ends (s t : State) : Prop where
  readerA : t.readerA.calm = s.readerA.calm
  readerB : t.readerB.calm = s.readerB.calm
  armedA : t.readerA.watch.armed = true → s.readerA.watch.armed = true
  armedB : t.readerB.watch.armed = true → s.readerB.watch.armed = true
  receiver : t.link.receiver = s.link.receiver
  pendingRequest : t.link.pendingRequest = s.link.pendingRequest
  reply : t.link.reply = s.link.reply
  linkFault : t.link.linkFault = s.link.linkFault
  rate : t.link.rate = s.link.rate
  busy : s.link.transmitter ≠ .idle → t.link.transmitter = s.link.transmitter
  enabled : t.queue.enabled = s.queue.enabled
  placeHeld : t.queue.placeHeld = s.queue.placeHeld
  cts : t.cts = s.cts
  ratePin : t.ratePin = s.ratePin
  pending : t.pending = s.pending

/-- The queue of t holds the reports of s, then the reports xs, with no more than alerts behind them. -/
def Reports (s t : State) (xs : List (ReaderId × ReportBody)) : Prop :=
  ∃ alerts : List (ReaderId × ReportBody),
    t.queue.bodies = s.queue.bodies ++ xs ++ alerts ∧ ∀ x ∈ alerts, x.2.isAlrt = true

/-- The reports of a list that the queue of s has a place for, when it is one report other than DFCT (R158). -/
def State.kept (s : State) (x : ReaderId × ReportBody) : List (ReaderId × ReportBody) :=
  if s.queue.occupied < 64 then [x] else []

/-- The state t after a command whose own effects leave s, the reports of s being all it offers but alerts. -/
def Settles (s t : State) : Prop := Ends s t ∧ Reports s t []

/-- The command completes, and its own effects leave the state effect. -/
def Completes (c : Instr) (s effect : State) : Prop := ∃ t, exec c s = .next t ∧ Settles effect t

/-- A reply is outstanding, with a request's code, tag, status code and fields (R178, R180). -/
def State.replied (s : State) (code tag : Byte) (payload : List Byte) : State :=
  s.onLink fun k => { k with reply := some { type := code + 0x80, tag := tag, payload := payload, isRset := false } }

/-- The request is taken: it completes, its effects leave the state effect, and its reply is outstanding. -/
def Answers (c : Instr) (code tag : Byte) (s effect : State) (payload : List Byte) : Prop :=
  Completes c s (effect.replied code tag payload)

/-- The monitor after a frame event's apply: m itself, or m with S clamped into the range of the set that becomes ACTIVE,
where the frame event applies one (R37, R150). -/
def Reader.monitorAfterApply (rd : Reader) (m : Monitor) : Monitor :=
  if rd.params.releases then
    let p := rd.params.rotate.setOf .active
    { m with smoothed := max (16 * p.pmin) (min m.smoothed (16 * p.pmax)) }
  else m

/-! ## The requests that rows carry -/

/-- The tag and the request of a request row. -/
def requestOf : Instr → Option (Byte × Request)
  | .idnt tag => some (tag, .idnt)
  | .strtImmediate tag r m f => some (tag, .strt r m 0 f)
  | .strtAtFrame tag r m f => some (tag, .strt r m 1 f)
  | .stop tag r => some (tag, .stop r)
  | .bypsOn tag r => some (tag, .byps r 1)
  | .bypsOff tag r => some (tag, .byps r 0)
  | .setw tag r ws => some (tag, .setw r ws)
  | .setr tag r x => some (tag, .setr r x)
  | .setc tag r => some (tag, .setc r)
  | .hold tag m => some (tag, .hold m)
  | .sync tag m => some (tag, .sync m)
  | .rels tag m => some (tag, .rels m)
  | .splm tag r f => some (tag, .splm r f)
  | .splc tag r f => some (tag, .splc r f)
  | .spll tag r => some (tag, .spll r)
  | .exca tag r f g => some (tag, .exca r f g)
  | .excr tag r f => some (tag, .excr r f)
  | .excl tag r => some (tag, .excl r)
  | .capa tag r k p m => some (tag, .capa r k p m)
  | .capr tag r l o n => some (tag, .capr r l o n)
  | .capx tag r => some (tag, .capx r)
  | .wtch tag r m x => some (tag, .wtch r m x)
  | .wtcd tag r => some (tag, .wtcd r)
  | .stat tag r => some (tag, .stat r)
  | .humr tag r => some (tag, .humr r)
  | .reptOn tag => some (tag, .rept 1)
  | .reptOff tag => some (tag, .rept 0)
  | .rset tag => some (tag, .rset)
  | .powerOn _ => none
  | .reset _ => none
  | .entryEvent _ _ _ _ => none
  | .realPulse _ => none
  | .clockLost _ => none
  | .clockBack _ => none
  | .laneStuck _ => none
  | .holdoverEntry _ => none
  | .virtualTick _ => none
  | .freeEntry _ => none
  | .runClose _ _ => none
  | .saturationEnd _ _ => none
  | .postContextComplete _ => none
  | .cutCommitAtB _ => none
  | .windowDeadline _ => none
  | .spliceClose _ => none
  | .entryRemoval _ => none
  | .periodEnd _ => none
  | .hissBlockComplete _ _ => none
  | .receiveByte _ _ => none
  | .interByteTimeout => none
  | .pendingRequestTaken => none
  | .ctsAsserted _ => none
  | .messageSent => none

/-- The reader that a command concerns (R1): the one its reader field names, or the one whose event it is. -/
def readerConcerned (c : Instr) : Option ReaderId :=
  match c with
  | .entryEvent r _ _ _ => some r
  | .realPulse r => some r
  | .clockLost r => some r
  | .clockBack r => some r
  | .laneStuck r => some r
  | .holdoverEntry r => some r
  | .virtualTick r => some r
  | .freeEntry r => some r
  | .runClose r _ => some r
  | .saturationEnd r _ => some r
  | .postContextComplete r => some r
  | .cutCommitAtB r => some r
  | .windowDeadline r => some r
  | .spliceClose r => some r
  | .entryRemoval r => some r
  | .periodEnd r => some r
  | .hissBlockComplete r _ => some r
  | .strtImmediate _ r _ _ => readerOf r
  | .strtAtFrame _ r _ _ => readerOf r
  | .stop _ r => readerOf r
  | .bypsOn _ r => readerOf r
  | .bypsOff _ r => readerOf r
  | .setw _ r _ => readerOf r
  | .setr _ r _ => readerOf r
  | .setc _ r => readerOf r
  | .splm _ r _ => readerOf r
  | .splc _ r _ => readerOf r
  | .spll _ r => readerOf r
  | .exca _ r _ _ => readerOf r
  | .excr _ r _ => readerOf r
  | .excl _ r => readerOf r
  | .capa _ r _ _ _ => readerOf r
  | .capr _ r _ _ _ => readerOf r
  | .capx _ r => readerOf r
  | .wtch _ r _ _ => readerOf r
  | .wtcd _ r => readerOf r
  | .stat _ r => readerOf r
  | .humr _ r => readerOf r
  | .powerOn _ => none
  | .reset _ => none
  | .idnt _ => none
  | .hold _ _ => none
  | .sync _ _ => none
  | .rels _ _ => none
  | .reptOn _ => none
  | .reptOff _ => none
  | .rset _ => none
  | .receiveByte _ _ => none
  | .interByteTimeout => none
  | .pendingRequestTaken => none
  | .ctsAsserted _ => none
  | .messageSent => none

/-- Bytes received one after another, each as a RECEIVE_BYTE with a good stop bit. -/
def receiveAll : List Byte → State → Host.Outcome State Fault Refusal
  | [], s => .next s
  | b :: rest, s =>
    match exec (.receiveByte b false) s with
    | .next t => receiveAll rest t
    | .fault f => .fault f
    | .refused x => .refused x

/-! ## Sound states

What the spec says holds at every moment. Each is kept by every step and holds at reset. -/

/-- The queue holds at most 64 records and 56 DFCT records, and no granted place outlasts its commit (R157). -/
def ReportQueue.Sound (q : ReportQueue) : Prop := q.records.length ≤ 64 ∧ q.dfctCount ≤ 56 ∧ q.placeHeld = false

/-- Each window holds 1024 samples (R3), and the capture copy 320 on each lane (R163). -/
def Reader.StoresSound (rd : Reader) : Prop :=
  rd.lane0.window.length = 1024 ∧ rd.lane1.window.length = 1024 ∧
    rd.capture.copy0.length = 320 ∧ rd.capture.copy1.length = 320 ∧ rd.capture.descriptor.count ≤ 320

def Params.roles (p : Params) : List Role := [p.slot0.role, p.slot1.role, p.slot2.role]

/-- The slots hold ACTIVE, EDIT, and one of STAGED or SPARE (R137), and sync-pending is set only while a set is STAGED
(R147). -/
def Params.RolesSound (p : Params) : Prop :=
  p.roles.count .active = 1 ∧ p.roles.count .edit = 1 ∧ p.roles.count .staged + p.roles.count .spare = 1 ∧
    (p.syncPending = true → p.roles.count .staged = 1)

/-- Every field of every slot lies in its range or among its values (R138, R141). -/
def Params.FieldsSound (p : Params) : Prop :=
  p.slot0.set.inRange = true ∧ p.slot1.set.inRange = true ∧ p.slot2.set.inRange = true

/-- A slot's weights on a lane lie in their range (R114), they are 0 where it is not active (R105), and its fault run is
at most 4, and below 4 where it is active (R107, R119). -/
def HumLaneSlot.Sound (x : HumLaneSlot) : Prop :=
  -8388607 ≤ x.wc ∧ x.wc ≤ 8388607 ∧ -8388607 ≤ x.ws ∧ x.ws ≤ 8388607 ∧ x.faultRun ≤ 4 ∧
    (x.status.active = true → x.faultRun < 4) ∧ (x.status.active = false → x.wc = 0 ∧ x.ws = 0)

def LaneState.HumSound (ln : LaneState) : Prop := ∀ i : Fin 12, ln.hum[i].Sound

/-- The table holds at most 32 entries in order of span start (R63); the schedule at most 16, in ascending order of due
frame, no two alike (R91); the list at most 8 ranges, in order and sharing no frame (R101). -/
def Reader.ListsSound (rd : Reader) : Prop :=
  rd.table.length ≤ 32 ∧ rd.table.Pairwise (fun x y => x.spanStart ≤ y.spanStart) ∧
    rd.schedule.length ≤ 16 ∧ rd.schedule.Pairwise (fun x y => x.due < y.due) ∧
    rd.exclusions.length ≤ 8 ∧ (∀ x ∈ rd.exclusions, x.first ≤ x.last) ∧
    rd.exclusions.Pairwise (fun x y => x.last < y.first)

/-- A STOPPED reader holds no defect, splice or range, and no reader that has not been started holds a defect or an
account of the film's speed (R10, R25, R63); a reader whose clock is lost sends nothing (R19). -/
def Reader.IdleSound (rd : Reader) : Prop :=
  (rd.state = .stopped → rd.schedule = [] ∧ rd.exclusions = []) ∧
    (rd.state = .stopped ∨ rd.state = .armed → rd.table = [] ∧ rd.monitor.state = .absent) ∧
    (rd.clockLost = true → rd.output = none)

/-- The envelope lies in 16 to 2^25 (R43), the history count is at most 2, and there is a run record in RUN and in no other
run state (R40). -/
def Detector.Sound (d : Detector) : Prop :=
  16 ≤ d.envelope ∧ d.envelope ≤ 2 ^ 25 ∧ d.history ≤ 2 ∧ (d.run = .run ↔ d.record.isSome = true)

/-- The step lies between s_min and 31 and is 31 while the filter is disabled, and a block in progress holds fewer than 64
residuals (R127, R132, R133). -/
def Hiss.Sound (h : Hiss) (p : ParamSet) : Prop :=
  p.minStep ≤ h.step ∧ h.step ≤ 31 ∧ h.blockCount ≤ 63 ∧ (p.hissEnable = false → h.step = 31 ∧ h.blockSum = 0 ∧ h.blockCount = 0)

/-- The counters keep within their limits (R15, R24, R25, R29, R80, R83). -/
def Reader.CountsSound (rd : Reader) : Prop :=
  rd.pendingStart < 2 ^ 32 ∧ rd.monitor.frameCount < 2 ^ 32 ∧ rd.monitor.glitches ≤ 65535 ∧ rd.monitor.rejected.length ≤ 2 ∧
    rd.unrecorded ≤ 65535 ∧ rd.committedTotal < 2 ^ 32 ∧ 1 ≤ rd.nextNumber ∧ rd.nextNumber < 2 ^ 32 ∧
    rd.lane0.equalRun ≤ 65535 ∧ rd.lane1.equalRun ≤ 65535

/-- A property of both readers. -/
def State.EachReader (s : State) (P : Reader → Prop) : Prop := P s.readerA ∧ P s.readerB

/-- A property of all four lanes. -/
def State.EachLane (s : State) (P : LaneState → Prop) : Prop :=
  s.EachReader fun rd => P rd.lane0 ∧ P rd.lane1

end Sys2Proof.Machine
end

