-- ==== Sys2Proof/WellFormed.lean ====
section
/-! DEFINITION. Which commands can be sent: a request must fit a frame. -/

namespace Sys2Proof

/-- A SETW of n writes has a payload of 2 + 5n bytes (R179), and a payload holds at most 1024 bytes (R174), so it
carries at most 204 writes. Every other command's operands have exactly the widths of their fields. -/
def Instr.wf : Instr → Bool
  | .setw _ _ writes => writes.length ≤ 204
  | .powerOn _ => true
  | .reset _ => true
  | .idnt _ => true
  | .strtImmediate _ _ _ _ => true
  | .strtAtFrame _ _ _ _ => true
  | .stop _ _ => true
  | .bypsOn _ _ => true
  | .bypsOff _ _ => true
  | .setr _ _ _ => true
  | .setc _ _ => true
  | .hold _ _ => true
  | .sync _ _ => true
  | .rels _ _ => true
  | .splm _ _ _ => true
  | .splc _ _ _ => true
  | .spll _ _ => true
  | .exca _ _ _ _ => true
  | .excr _ _ _ => true
  | .excl _ _ => true
  | .capa _ _ _ _ _ => true
  | .capr _ _ _ _ _ => true
  | .capx _ _ => true
  | .wtch _ _ _ _ => true
  | .wtcd _ _ => true
  | .stat _ _ => true
  | .humr _ _ => true
  | .reptOn _ => true
  | .reptOff _ => true
  | .rset _ => true
  | .entryEvent _ _ _ _ => true
  | .realPulse _ => true
  | .clockLost _ => true
  | .clockBack _ => true
  | .laneStuck _ => true
  | .holdoverEntry _ => true
  | .virtualTick _ => true
  | .freeEntry _ => true
  | .runClose _ _ => true
  | .saturationEnd _ _ => true
  | .postContextComplete _ => true
  | .cutCommitAtB _ => true
  | .windowDeadline _ => true
  | .spliceClose _ => true
  | .entryRemoval _ => true
  | .periodEnd _ => true
  | .hissBlockComplete _ _ => true
  | .receiveByte _ _ => true
  | .interByteTimeout => true
  | .pendingRequestTaken => true
  | .ctsAsserted _ => true
  | .messageSent => true

end Sys2Proof
end

