-- ==== Sys2Proof/Certificates/Slice0/Obligations.lean ====
section
/-! DEFINITION. The statements for the provers: what each command does, what an operation computes, and what every step
keeps. -/

open Sys2Proof Sys2Proof.Machine

/-! ## The machine -/

/-- A step executes the command at the front of the queue on the state with the queue's rest, and on an empty queue the
part idles (the model's own, log entry 3). -/
def Obligations.StepExecutesFrontCommand : Prop :=
  (∀ (c : Instr) (rest : List Instr) (s : State),
    step { s with pending := c :: rest } = exec c { s with pending := rest }) ∧
  ∀ s : State, s.pending = [] → step s = .next s

/-- The model's own, and no command's effect: no state and no operand ends a run, and no command touches the commands that
wait, a reset included (log entries 1 and 25). -/
def Obligations.EveryCommandCompletesInEveryState : Prop :=
  ∀ (c : Instr) (s : State), ∃ t, exec c s = .next t ∧ t.pending = s.pending

/-- R1: a command that concerns one reader leaves the other reader as it stood, but for the armed flag of its watch,
which reads a condition of the shared queue (R169). -/
def Obligations.CommandForOneReaderLeavesTheOther : Prop :=
  ∀ (c : Instr) (r : ReaderId) (s t : State), readerConcerned c = some r → exec c s = .next t →
    (t.rd (otherReader r)).calm = (s.rd (otherReader r)).calm

/-- R160: once a command has ended, a free transmitter has nothing that it could choose. -/
def Obligations.FreeTransmitterHasNothingToSend : Prop :=
  ∀ (c : Instr) (s t : State), exec c s = .next t → t.link.transmitter = .idle → t.cts = true →
    t.link.reply = none ∧ (t.queue.enabled = false ∨ t.queue.records = [])

/-! ## The resets -/

/-- R22, R185: power-on, and the end of the RSET reply, put the whole part at its reset values, with the rate that the strap
gives; the commands that wait, the CTS pin and the model's own count stay (log entry 25). -/
def Obligations.ResetsRestoreEveryBlock : Prop :=
  ∀ (rate : Bool) (s : State),
    let whole : State :=
      { State.reset with
        cts := s.cts, ratePin := rate, freeTick := s.freeTick, pending := s.pending
        link := { Link.reset with rate := rate } }
    exec (.powerOn rate) s = .next whole ∧
    (∀ (bytes : List Byte) (rep : Reply), s.link.transmitter = .reply bytes → s.link.reply = some rep → rep.isRset = true →
      exec (.reset rate) s = .next whole ∧
      exec .messageSent s = .next { whole with ratePin := s.ratePin, link := { Link.reset with rate := s.ratePin } })

/-- What every step keeps holds of the part right after reset. -/
def Obligations.ResetStateIsSound : Prop :=
  State.reset.queue.Sound ∧ State.reset.EachReader Reader.StoresSound ∧
    State.reset.EachReader (fun rd => rd.params.RolesSound ∧ rd.params.FieldsSound) ∧
    State.reset.EachLane LaneState.HumSound ∧ State.reset.EachReader Reader.ListsSound ∧
    State.reset.EachReader Reader.IdleSound ∧ State.reset.EachLane (fun ln => ln.detector.Sound) ∧
    State.reset.EachReader (fun rd => rd.lane0.hiss.Sound rd.active ∧ rd.lane1.hiss.Sound rd.active) ∧
    State.reset.EachReader Reader.CountsSound

/-! ## What every step keeps -/

/-- R157: at any moment the queue holds at most 64 records, at most 56 of them DFCT, and no granted place outlasts the
commit that asked for it. -/
def Obligations.EveryStepKeepsQueueWithinItsPlaces : Prop :=
  ∀ s t : State, s.queue.Sound → step s = .next t → t.queue.Sound

/-- R3, R163: windows keep 1024 positions and capture copies 320 samples. R15, R24, R29, R80, R83: the counters keep within
their limits. -/
def Obligations.EveryStepKeepsStoresAndCounters : Prop :=
  (∀ s t : State, s.EachReader Reader.StoresSound → step s = .next t → t.EachReader Reader.StoresSound) ∧
  (∀ s t : State, s.EachReader Reader.CountsSound → step s = .next t → t.EachReader Reader.CountsSound)

/-- R114, R105, R119: weights within their range, 0 where a slot is not active, fault runs up to 4. -/
def Obligations.EveryStepKeepsHumWeightsInRange : Prop :=
  ∀ s t : State, s.EachLane LaneState.HumSound → step s = .next t → t.EachLane LaneState.HumSound

/-- R63, R91, R101, R10, R25, R19, R40, R43: every step keeps the lists within their places and in their order, a reader that
is not started without defects or an account of the film's speed, a silent output while the clock is lost, and the
envelopes, history counts and run records of the detectors as their rules bound them. -/
def Obligations.EveryStepKeepsListsIdleReadersAndDetectors : Prop :=
  (∀ s t : State, s.EachReader Reader.ListsSound → step s = .next t → t.EachReader Reader.ListsSound) ∧
  (∀ s t : State, s.EachReader Reader.IdleSound → step s = .next t → t.EachReader Reader.IdleSound) ∧
  ∀ s t : State, s.EachLane (fun ln => ln.detector.Sound) → step s = .next t → t.EachLane (fun ln => ln.detector.Sound)

/-- R137, R138, R141, R147, R133: the three slots keep their roles and every field its range, sync-pending is set only while
a set is STAGED, and with them each lane's hiss step stays within s_min of the ACTIVE set and 31. -/
def Obligations.EveryStepKeepsSetsAndHissStep : Prop :=
  let Inv := fun rd : Reader => rd.params.RolesSound ∧ rd.params.FieldsSound ∧
    rd.lane0.hiss.Sound rd.active ∧ rd.lane1.hiss.Sound rd.active
  ∀ s t : State, s.EachReader Inv → step s = .next t → t.EachReader Inv

/-! ## Requests of the reader core -/

/-- R7, R8, R124, R151: STRT with option IMMEDIATE on a STOPPED reader takes the start point at once: the roles rotate where
a set is STAGED, which an APLD report of cause START tells, every block of the reader takes its start values, and the reader
is RUNNING with the mode and start frame given. -/
def Obligations.StrtImmediateStartsReader : Prop :=
  ∀ (tag : Byte) (r : ReaderId) (mode : LaneMode) (startFrame : BitVec 32) (s : State),
    s.link.reply = none → (s.rd r).state = .stopped →
    ∃ t, exec (.strtImmediate tag (readerCode r) mode.code startFrame) s = .next t ∧
      Ends ((s.onReader r fun rd =>
        let p := rd.params.rotate.setOf .active
        let delta := fun i : Fin 12 => slotIncrement p.hum[i] p.mains p.nominalRate p.pn
        let lane := fun ln : LaneState =>
          { ln with
            equalRun := 0, stuck := false, adapted := false
            detector := { prev1 := 0, prev2 := 0, history := 0, envelope := 16, run := .idle, record := none, quiet := 0 }
            hum := Vector.ofFn fun i : Fin 12 =>
              { wc := 0, ws := 0, faultRun := 0, fresh := false, fault := false, aPrev := 0
                status := if p.hum[i].enabled then (if 2 ^ 31 ≤ (delta i).toNat then .outOfBand else .seeking) else .off }
            hiss := { step := 31, y := 0, prev := 0, blockSum := 0, blockCount := 0 } }
        { rd with
          state := .running, laneMode := mode, pendingStart := startFrame.toNat, entered := 0, nextNumber := 1
          params := rd.params.rotate, lane0 := lane rd.lane0, lane1 := lane rd.lane1
          monitor :=
            { state := .absent, smoothed := p.pn, frameCount := startFrame.toNat, reference := .none, rejected := []
              lastEvent := 0, holdoverTicks := 0, glitches := 0 }
          hum :=
            { slots := Vector.ofFn fun i => { theta := 0, delta := delta i }, periodCounter := 0, humFault := false } }).replied
        0x02 tag [0x00]) t ∧
      Reports s t (if ((s.rd r).params.holder .staged).isSome
        then s.kept (r, .apld .start false (s.rd r).params.rotate.activeSlot startFrame.toNat 0) else [])

/-- R7, R9: STRT with option AT-FRAME on a STOPPED reader arms it and records lane mode and start frame. R7: a reader that
is not STOPPED refuses STRT with STATE, and a STOPPED one refuses an undefined lane mode with VALUE. -/
def Obligations.StrtAtFrameArmsReader : Prop :=
  (∀ (tag : Byte) (r : ReaderId) (mode : LaneMode) (startFrame : BitVec 32) (s : State),
    s.link.reply = none → (s.rd r).state = .stopped →
    Answers (.strtAtFrame tag (readerCode r) mode.code startFrame) 0x02 tag s
      (s.onReader r fun rd => { rd with state := .armed, laneMode := mode, pendingStart := startFrame.toNat }) [0x00]) ∧
  (∀ (tag : Byte) (r : ReaderId) (mode : Byte) (startFrame : BitVec 32) (s : State), s.link.reply = none →
    ((s.rd r).state ≠ .stopped →
      Answers (.strtImmediate tag (readerCode r) mode startFrame) 0x02 tag s s [0x13] ∧
      Answers (.strtAtFrame tag (readerCode r) mode startFrame) 0x02 tag s s [0x13]) ∧
    ((s.rd r).state = .stopped → 1 < mode.toNat →
      Answers (.strtImmediate tag (readerCode r) mode startFrame) 0x02 tag s s [0x1A] ∧
      Answers (.strtAtFrame tag (readerCode r) mode startFrame) 0x02 tag s s [0x1A]))

/-- R10, R62, R125, R21: STOP on a reader that is not STOPPED empties its table, schedule and list, ends its runs, the stuck
state of its lanes and an armed capture, and answers the discarded entries, the frame count and the index as they stood; a
STOPPED reader refuses it with STATE. -/
def Obligations.StopEndsRun : Prop :=
  ∀ (tag : Byte) (r : ReaderId) (s : State), s.link.reply = none →
    let rd := s.rd r
    (rd.state = .stopped → Answers (.stop tag (readerCode r)) 0x03 tag s s [0x13]) ∧
    (rd.state ≠ .stopped → ∃ t, exec (.stop tag (readerCode r)) s = .next t ∧
      Ends ((s.onReader r fun rd =>
        let lane := fun ln : LaneState =>
          { ln with
            equalRun := 0, stuck := false, adapted := false
            detector := { ln.detector with run := .idle, quiet := 0, record := none }
            hum := ln.hum.map fun x => { x with wc := 0, ws := 0, aPrev := 0, fresh := false, fault := false } }
        { rd with
          state := .stopped, table := [], schedule := [], exclusions := []
          lane0 := lane rd.lane0, lane1 := lane rd.lane1
          capture := { rd.capture with state := if rd.capture.state = .armed then .disarmed else rd.capture.state }
          monitor := { rd.monitor with state := .absent, reference := .none, rejected := [], holdoverTicks := 0 } }).replied
        0x03 tag
        (0x00 :: BitVec.ofNat 8 (rd.table.countP fun d => d.state != .committed) ::
          (le 4 rd.monitor.frameCount ++ le 6 rd.index))) t ∧
      Reports s t (if rd.lane0.stuck || rd.lane1.stuck
        then s.kept (r, .lane .unstuck rd.lane0.stuck rd.lane1.stuck false false rd.clockLost rd.monitor.frameCount rd.index)
        else []))

/-- R11, R12, R13, R61, R125: BYPS ON on a RUNNING reader abandons its uncommitted entries and BYPS OFF on a BYPASSED one
resumes its detectors from the last samples; each is NO-EFFECT where the reader already stands so, and refused with STATE in
STOPPED and ARMED. -/
def Obligations.BypsEntersAndLeavesBypass : Prop :=
  (∀ (tag : Byte) (r : ReaderId) (s : State), s.link.reply = none →
    ((s.rd r).state = .running → Answers (.bypsOn tag (readerCode r)) 0x04 tag s
      (s.onReader r fun rd =>
        let lane := fun ln : LaneState =>
          { ln with detector := { ln.detector with run := .idle, quiet := 0, record := none } }
        { rd with
          state := .bypassed, table := rd.table.filter (fun d => d.state == .committed)
          lane0 := lane rd.lane0, lane1 := lane rd.lane1 })
      [0x00, BitVec.ofNat 8 ((s.rd r).table.countP fun d => d.state != .committed)]) ∧
    ((s.rd r).state = .bypassed → Answers (.bypsOn tag (readerCode r)) 0x04 tag s s [0x03, 0]) ∧
    ((s.rd r).state = .stopped ∨ (s.rd r).state = .armed → Answers (.bypsOn tag (readerCode r)) 0x04 tag s s [0x13, 0])) ∧
  (∀ (tag : Byte) (r : ReaderId) (s : State), s.link.reply = none →
    ((s.rd r).state = .bypassed → Answers (.bypsOff tag (readerCode r)) 0x04 tag s
      (s.onReader r fun rd =>
        let lane := fun ln : LaneState =>
          { ln with
            adapted := false
            detector :=
              { prev1 := ln.lastEntered, prev2 := ln.beforeLast, history := min rd.entered 2, envelope := 16
                run := .idle, record := none, quiet := 0 } }
        { rd with state := .running, lane0 := lane rd.lane0, lane1 := lane rd.lane1 })
      [0x00, 0]) ∧
    ((s.rd r).state = .running → Answers (.bypsOff tag (readerCode r)) 0x04 tag s s [0x03, 0]) ∧
    ((s.rd r).state = .stopped ∨ (s.rd r).state = .armed → Answers (.bypsOff tag (readerCode r)) 0x04 tag s s [0x13, 0]))

/-! ## Requests of the parameter sets -/

/-- R140, R141: SETW is refused whole, or writes the EDIT set and no other. -/
def Obligations.SetwWritesEditSetOrNothing : Prop :=
  ∀ (tag : Byte) (r : ReaderId) (writes : List FieldWrite) (s : State), s.link.reply = none →
    (writes.length = 0 ∨ 128 < writes.length → Answers (.setw tag (readerCode r) writes) 0x05 tag s s [0x11]) ∧
    (1 ≤ writes.length → writes.length ≤ 128 →
      (∀ w, writes.find? (fun w => !writeValid w) = some w →
        Answers (.setw tag (readerCode r) writes) 0x05 tag s s [0x1A, w.id]) ∧
      ((∀ w ∈ writes, writeValid w = true) → ∀ edit : SlotId, (s.rd r).params.holder .edit = some edit →
        let clamped := writes.filter writeClamps
        Answers (.setw tag (readerCode r) writes) 0x05 tag s
          (s.onReader r fun rd =>
            { rd with params := rd.params.onSlot edit fun x => { x with set := writes.foldl ParamSet.write x.set } })
          (if clamped = [] then [0x00] else 0x01 :: BitVec.ofNat 8 clamped.length :: clamped.map (·.id))))

/-- R139, R141: a valid write gives its field the value written, clamped where the field is numeric, and leaves every other
field of the set as it stands. -/
def Obligations.WriteSetsItsFieldAlone : Prop :=
  ∀ (p : ParamSet) (w : FieldWrite) (id : Nat), writeValid w = true →
    (p.write w).get id =
      if id = w.id.toNat then
        (match fieldKind id with
          | some (.numeric lo hi) => max lo (min hi w.value.toInt)
          | some (.enumerated _) => w.value.toInt
          | none => w.value.toInt)
      else p.get id

/-- R142: SETR refuses a role number above 3 with VALUE, answers NOT-FOUND for a role that no slot holds, and else returns
the number of the slot that holds the role with its fields in ascending order of id; it changes no state. -/
def Obligations.SetrReturnsSetOfRole : Prop :=
  ∀ (tag : Byte) (r : ReaderId) (number : Byte) (s : State), s.link.reply = none →
    (3 < number.toNat → Answers (.setr tag (readerCode r) number) 0x06 tag s s [0x1A]) ∧
    ∀ role : Role, role.code = number →
      ((∀ i : SlotId, ((s.rd r).params.slot i).role ≠ role) →
        Answers (.setr tag (readerCode r) number) 0x06 tag s s [0x18]) ∧
      ∀ i : SlotId, ((s.rd r).params.slot i).role = role → (∀ j : SlotId, ((s.rd r).params.slot j).role = role → j = i) →
        Answers (.setr tag (readerCode r) number) 0x06 tag s s
          (0x00 :: i.code :: fieldIds.flatMap fun id => leInt 4 (((s.rd r).params.slot i).set.get id))

/-- R143, R144, R145: SETC refuses an inconsistent EDIT set with the field that its first failing test names; else the EDIT
slot becomes STAGED, and the third slot becomes EDIT with the same contents, superseding a set that was STAGED. -/
def Obligations.SetcChecksAndCommitsEditSet : Prop :=
  ∀ (tag : Byte) (r : ReaderId) (s : State) (edit third : SlotId), s.link.reply = none → (s.rd r).params.RolesSound →
    ((s.rd r).params.slot edit).role = .edit →
    ((s.rd r).params.slot third).role = .staged ∨ ((s.rd r).params.slot third).role = .spare →
    let p := ((s.rd r).params.slot edit).set
    let failing : Option Nat :=
      if p.pmax ≤ p.pmin then some 13
      else if p.pn < 16 * p.pmin ∨ 16 * p.pmax < p.pn then some 14
      else if p.lmax < p.linearLimit then some 7
      else if 256 < p.splicePre + p.splicePost then some 10
      else ((List.finRange 12).find? fun i =>
        p.hum[i].enabled && p.hum[i].source == .fixed && decide (2 ^ 31 ≤ p.hum[i].fixedInc)).map fun i => 35 + 8 * i.val
    match failing with
    | some id => Answers (.setc tag (readerCode r)) 0x07 tag s s [0x17, BitVec.ofNat 8 id]
    | none =>
      Answers (.setc tag (readerCode r)) 0x07 tag s
        (s.onReader r fun rd =>
          { rd with params := (rd.params.onSlot edit fun x => { x with role := .staged }).onSlot third fun _ =>
              { role := .edit, set := p } })
        [if ((s.rd r).params.slot third).role = .staged then 0x02 else 0x00, edit.code, third.code]

/-- R148, R149: HOLD sets and RELS clears the hold flag of each reader named, SYNC sets sync-pending on each reader named
that has a set STAGED; the reply carries a byte for each reader, and a mask other than 1, 2 and 3 is refused with VALUE. -/
def Obligations.HoldSyncAndRelsMoveTheirFlags : Prop :=
  (∀ (tag mask : Byte) (s : State), s.link.reply = none →
    (mask ≠ 1 ∧ mask ≠ 2 ∧ mask ≠ 3 →
      Answers (.hold tag mask) 0x08 tag s s [0x1A] ∧ Answers (.rels tag mask) 0x0A tag s s [0x1A]) ∧
    (mask = 1 ∨ mask = 2 ∨ mask = 3 → ∀ flag : Bool,
      let named := fun r : ReaderId => match r with
        | .a => mask == 1 || mask == 3
        | .b => mask == 2 || mask == 3
      let changed := fun r : ReaderId => named r && (s.rd r).params.hold != flag
      let put := fun rd : Reader => { rd with params := { rd.params with hold := flag } }
      let after : State :=
        { s with
          readerA := if named .a then put s.readerA else s.readerA
          readerB := if named .b then put s.readerB else s.readerB }
      let code := fun b : Bool => (if b then 0x00 else 0x03 : Byte)
      Answers (if flag then .hold tag mask else .rels tag mask) (if flag then 0x08 else 0x0A) tag s after
        [code (changed .a || changed .b), code (changed .a), code (changed .b)])) ∧
  (∀ (tag mask : Byte) (s : State), s.link.reply = none →
    (mask ≠ 1 ∧ mask ≠ 2 ∧ mask ≠ 3 → Answers (.sync tag mask) 0x09 tag s s [0x1A]) ∧
    (mask = 1 ∨ mask = 2 ∨ mask = 3 →
      let named := fun r : ReaderId => match r with
        | .a => mask == 1 || mask == 3
        | .b => mask == 2 || mask == 3
      let acts := fun r : ReaderId => named r && ((s.rd r).params.roles.contains Role.staged)
      let put := fun rd : Reader => { rd with params := { rd.params with syncPending := true } }
      let after : State :=
        { s with
          readerA := if acts .a then put s.readerA else s.readerA
          readerB := if acts .b then put s.readerB else s.readerB }
      let code := fun b : Bool => (if b then 0x00 else 0x03 : Byte)
      Answers (.sync tag mask) 0x09 tag s after [code (acts .a || acts .b), code (acts .a), code (acts .b)]))

/-! ## Requests of the splice schedule and the exclusion list -/

/-- R92: SPLM is judged by its tests in their order, the first that applies deciding the status, and where none refuses it
the splice is placed in the schedule in its order. -/
def Obligations.SplmSchedulesSplice : Prop :=
  ∀ (tag : Byte) (r : ReaderId) (picture : BitVec 32) (s : State), s.link.reply = none →
    let rd := s.rd r
    let due : Int := picture.toNat + rd.active.spliceOffset
    let refused := fun (status : Byte) (shown : Nat) =>
      Answers (.splm tag (readerCode r) picture) 0x0B tag s s (status :: (le 4 shown ++ [BitVec.ofNat 8 rd.schedule.length]))
    if rd.state = .stopped then refused 0x13 0
    else if due < 0 ∨ 2 ^ 32 - 1 < due then refused 0x1A 0
    else if (rd.state = .armed ∧ due < rd.pendingStart) ∨ (rd.state ≠ .armed ∧ due ≤ rd.monitor.frameCount) then
      refused 0x15 due.toNat
    else if ∃ x ∈ rd.schedule, (x.due : Int) = due then refused 0x03 due.toNat
    else if 16 ≤ rd.schedule.length then refused 0x14 due.toNat
    else ∃ schedule : List SpliceEntry,
      schedule.Perm ({ picture := picture.toNat, due := due.toNat } :: rd.schedule) ∧
      (rd.schedule.Pairwise (fun x y => x.due < y.due) → schedule.Pairwise (fun x y => x.due < y.due)) ∧
      Answers (.splm tag (readerCode r) picture) 0x0B tag s (s.onReader r fun x => { x with schedule := schedule })
        (0x00 :: (le 4 due.toNat ++ [BitVec.ofNat 8 (rd.schedule.length + 1)]))

/-- R94, R95: SPLC removes the entry with its due frame, or answers NOT-FOUND, and carries the number of entries left; SPLL
lists the frame count and the schedule and changes nothing. R103: EXCR removes the range with its start frame, or answers
NOT-FOUND, and carries the number of ranges left; EXCL lists the frame count and the ranges and changes nothing. -/
def Obligations.SplcAndExcrRemoveAndSpllAndExclList : Prop :=
  (∀ (tag : Byte) (r : ReaderId) (due : BitVec 32) (s : State), s.link.reply = none →
    let rest := (s.rd r).schedule.filter fun x => x.due != due.toNat
    ((∃ x ∈ (s.rd r).schedule, x.due = due.toNat) →
      Answers (.splc tag (readerCode r) due) 0x0C tag s (s.onReader r fun x => { x with schedule := rest })
        [0x00, BitVec.ofNat 8 rest.length]) ∧
    ((∀ x ∈ (s.rd r).schedule, x.due ≠ due.toNat) →
      Answers (.splc tag (readerCode r) due) 0x0C tag s s [0x18, BitVec.ofNat 8 (s.rd r).schedule.length])) ∧
  (∀ (tag : Byte) (r : ReaderId) (s : State), s.link.reply = none →
    Answers (.spll tag (readerCode r)) 0x0D tag s s
      (0x00 :: (le 4 (s.rd r).monitor.frameCount ++ BitVec.ofNat 8 (s.rd r).schedule.length ::
        (s.rd r).schedule.flatMap fun x => le 4 x.picture ++ le 4 x.due))) ∧
  (∀ (tag : Byte) (r : ReaderId) (first : BitVec 32) (s : State), s.link.reply = none →
    let rest := (s.rd r).exclusions.filter fun x => x.first != first.toNat
    ((∃ x ∈ (s.rd r).exclusions, x.first = first.toNat) →
      Answers (.excr tag (readerCode r) first) 0x0F tag s (s.onReader r fun x => { x with exclusions := rest })
        [0x00, BitVec.ofNat 8 rest.length]) ∧
    ((∀ x ∈ (s.rd r).exclusions, x.first ≠ first.toNat) →
      Answers (.excr tag (readerCode r) first) 0x0F tag s s [0x18, BitVec.ofNat 8 (s.rd r).exclusions.length]) ∧
    Answers (.excl tag (readerCode r)) 0x10 tag s s
      (0x00 :: (le 4 (s.rd r).monitor.frameCount ++ BitVec.ofNat 8 (s.rd r).exclusions.length ::
        (s.rd r).exclusions.flatMap fun x => le 4 x.first ++ le 4 x.last)))

/-- R102: EXCA is judged by its tests in their order, the first that applies deciding the status, and where none refuses it
the range is placed in the list in its order. -/
def Obligations.ExcaAddsRange : Prop :=
  ∀ (tag : Byte) (r : ReaderId) (first last : BitVec 32) (s : State), s.link.reply = none →
    let rd := s.rd r
    let refused := fun status : Byte =>
      Answers (.exca tag (readerCode r) first last) 0x0E tag s s [status, BitVec.ofNat 8 rd.exclusions.length]
    if rd.state = .stopped then refused 0x13
    else if last.toNat < first.toNat then refused 0x1A
    else if (rd.state = .armed ∧ last.toNat < rd.pendingStart) ∨ (rd.state ≠ .armed ∧ last.toNat < rd.monitor.frameCount) then
      refused 0x15
    else if ∃ x ∈ rd.exclusions, x.first ≤ last.toNat ∧ first.toNat ≤ x.last then refused 0x16
    else if 8 ≤ rd.exclusions.length then refused 0x14
    else ∃ ranges : List FrameRange,
      ranges.Perm ({ first := first.toNat, last := last.toNat } :: rd.exclusions) ∧
      ((∀ x ∈ rd.exclusions, x.first ≤ x.last) → rd.exclusions.Pairwise (fun x y => x.last < y.first) →
        ranges.Pairwise (fun x y => x.last < y.first)) ∧
      Answers (.exca tag (readerCode r) first last) 0x0E tag s (s.onReader r fun x => { x with exclusions := ranges })
        [0x00, BitVec.ofNat 8 (rd.exclusions.length + 1)]

/-! ## Requests of the capture slot and the watch -/

/-- R164, R168: CAPA arms a slot that is not HELD with its qualifier, and is refused with STATE on a HELD slot and with
VALUE for a mask that is not defined; CAPX releases a HELD slot and answers and clears its missed flag, and is refused with
NOT-HELD elsewhere. -/
def Obligations.CapaArmsAndCapxReleasesCaptureSlot : Prop :=
  (∀ (tag : Byte) (r : ReaderId) (kinds : Byte) (minPeak : BitVec 16) (lanes : Byte) (s : State), s.link.reply = none →
    if (s.rd r).capture.state = .held then Answers (.capa tag (readerCode r) kinds minPeak lanes) 0x11 tag s s [0x13]
    else if kinds.toNat = 0 ∨ 3 < kinds.toNat ∨ lanes.toNat = 0 ∨ 3 < lanes.toNat then
      Answers (.capa tag (readerCode r) kinds minPeak lanes) 0x11 tag s s [0x1A]
    else Answers (.capa tag (readerCode r) kinds minPeak lanes) 0x11 tag s
      (s.onReader r fun rd =>
        { rd with capture :=
          { rd.capture with
            state := .armed
            qualifier :=
              { clicks := kinds.getLsbD 0, splices := kinds.getLsbD 1, minPeak := minPeak.toNat
                lane0 := lanes.getLsbD 0, lane1 := lanes.getLsbD 1 } } }) [0x00]) ∧
  (∀ (tag : Byte) (r : ReaderId) (s : State), s.link.reply = none →
    if (s.rd r).capture.state = .held then
      Answers (.capx tag (readerCode r)) 0x13 tag s
        (s.onReader r fun rd => { rd with capture := { rd.capture with state := .disarmed, missed := false } })
        [0x00, if (s.rd r).capture.missed then 1 else 0]
    else Answers (.capx tag (readerCode r)) 0x13 tag s s [0x19])

/-- R167: CAPR is judged by its tests in their order; else it returns the descriptor, the lane, the offset, the count and
the copied samples from the offset on, and it changes no state. -/
def Obligations.CaprReadsCapturedSamples : Prop :=
  ∀ (tag : Byte) (r : ReaderId) (lane : Byte) (offset count : BitVec 16) (s : State), s.link.reply = none →
    let c := (s.rd r).capture
    let d := c.descriptor
    let replies := Answers (.capr tag (readerCode r) lane offset count) 0x12 tag s s
    if c.state ≠ .held then replies [0x19]
    else if 1 < lane.toNat ∨ count.toNat = 0 ∨ 320 < count.toNat ∨ d.count < offset.toNat + count.toNat then replies [0x1A]
    else if d.lanes / (lane.toNat + 1) % 2 = 0 then replies [0x18]
    else replies (0x00 :: (le 4 d.number ++ d.kind.code :: BitVec.ofNat 8 d.lanes :: (le 6 d.first ++ le 2 d.count) ++
      lane :: (bytes16 offset ++ bytes16 count ++
        (((if lane = 0 then c.copy0 else c.copy1).drop offset.toNat).take count.toNat).flatMap fun x => le 3 x.toNat)))

/-- R170: WTCH arms the watch with its mask and mode and answers the conditions; a watch that they satisfy offers its alert
at once and is disarmed. WTCD disarms it (R171). -/
def Obligations.WtchArmsAndWtcdDisarmsWatch : Prop :=
  (∀ (tag : Byte) (r : ReaderId) (mask : BitVec 16) (mode : Byte) (s : State), s.link.reply = none →
    (mask.toNat = 0 ∨ 1023 < mask.toNat ∨ 1 < mode.toNat →
      Answers (.wtch tag (readerCode r) mask mode) 0x14 tag s s [0x1A]) ∧
    (0 < mask.toNat → mask.toNat ≤ 1023 → ∀ m : WatchMode, m.code = mode →
      let cs := s.conditions r
      let satisfied := match m with
        | .any => cs &&& mask ≠ 0
        | .all => cs &&& mask = mask
      ∃ t, exec (.wtch tag (readerCode r) mask mode) s = .next t ∧
        Settles ((s.onReader r fun rd => { rd with watch := { armed := true, mask := mask, mode := m } }).replied 0x14 tag
          (0x00 :: bytes16 cs)) t ∧
        (satisfied → (t.rd r).watch.armed = false ∧
          (s.queue.occupied + 1 < 64 → (r, ReportBody.alrt cs mask m (s.rd r).monitor.frameCount (s.rd r).index) ∈
            t.queue.bodies.drop s.queue.bodies.length)) ∧
        (¬ satisfied → (s.rd (otherReader r)).watch.armed = false →
          (t.rd r).watch.armed = true ∧ t.queue.bodies = s.queue.bodies))) ∧
  (∀ (tag : Byte) (r : ReaderId) (s : State), s.link.reply = none →
    ((s.rd r).watch.armed = true → Answers (.wtcd tag (readerCode r)) 0x15 tag s
      (s.onReader r fun rd => { rd with watch := { rd.watch with armed := false } }) [0x00]) ∧
    ((s.rd r).watch.armed = false → Answers (.wtcd tag (readerCode r)) 0x15 tag s s [0x03]))

/-! ## Requests that read, and those of the queue and the part -/

/-- R172: STAT answers the items as they stand, then clears the unrecorded counter and the link-fault flag. -/
def Obligations.StatReturnsAndClears : Prop :=
  ∀ (tag : Byte) (r : ReaderId) (s : State), s.link.reply = none →
    let rd := s.rd r
    let m := rd.monitor
    let flag := fun b : Bool => (if b then 1 else 0 : Byte)
    Answers (.stat tag (readerCode r)) 0x16 tag s
      ((s.onReader r fun rd => { rd with unrecorded := 0 }).onLink fun k => { k with linkFault := false })
      (0x00 :: rd.state.code :: rd.laneMode.code :: (le 6 rd.index ++ m.state.code :: (le 4 m.smoothed ++ le 4 m.frameCount ++
        le 2 m.glitches) ++
        [flag rd.lane0.stuck + 2 * flag rd.lane1.stuck + 4 * flag rd.clockLost,
          rd.params.slot0.role.code, rd.params.slot1.role.code, rd.params.slot2.role.code,
          flag rd.params.hold + 2 * flag rd.params.syncPending] ++
        le 2 rd.unrecorded ++ flag rd.gap :: le 4 rd.committedTotal ++
        [BitVec.ofNat 8 rd.table.length, BitVec.ofNat 8 rd.schedule.length, BitVec.ofNat 8 rd.exclusions.length,
          BitVec.ofNat 8 rd.lane0.hiss.step, BitVec.ofNat 8 rd.lane1.hiss.step,
          rd.capture.state.code, flag rd.capture.toggle, flag rd.capture.missed, flag rd.watch.armed] ++
        bytes16 rd.watch.mask ++
        [rd.watch.mode.code, BitVec.ofNat 8 s.queue.records.length, BitVec.ofNat 8 s.queue.dfctCount,
          flag s.queue.enabled, flag s.queue.lost, flag s.link.linkFault]))

/-- R122, R184: HUMR returns the reader's S, monitor period, period counter, hum-fault flag, mains and nominal rate, and the
configuration and state of its twelve slots; IDNT returns the part's identity; neither changes any state. -/
def Obligations.HumrAndIdntReturnTheirItems : Prop :=
  (∀ (tag : Byte) (r : ReaderId) (s : State), s.link.reply = none →
    let rd := s.rd r
    let p := rd.active
    let flag := fun b : Bool => (if b then 1 else 0 : Byte)
    let lane := fun x : HumLaneSlot => x.status.code :: (leInt 3 x.wc ++ leInt 3 x.ws ++ [BitVec.ofNat 8 x.faultRun])
    Answers (.humr tag (readerCode r)) 0x17 tag s s
      (0x00 :: (le 4 rd.monitor.smoothed ++ [BitVec.ofNat 8 p.monitorPeriod, BitVec.ofNat 8 rd.hum.periodCounter,
        flag rd.hum.humFault, BitVec.ofNat 8 p.mains] ++ le 2 p.nominalRate ++
        (List.finRange 12).flatMap fun i =>
          [flag p.hum[i].enabled, p.hum[i].source.code, BitVec.ofNat 8 p.hum[i].order] ++ le 4 p.hum[i].fixedInc ++
          BitVec.ofNat 8 p.hum[i].shift :: (le 4 rd.hum.slots[i].delta.toNat ++ le 4 rd.hum.slots[i].theta.toNat ++
          lane rd.lane0.hum[i] ++ lane rd.lane1.hum[i])))) ∧
  (∀ (tag : Byte) (s : State), s.link.reply = none →
    Answers (.idnt tag) 0x01 tag s s
      [0x00, 0x40, 0x03, 1, if s.link.rate then 1 else 0, 0x00, 0x04, 32, 16, 8, 64, 56, 0x40, 0x01, 12, 83])

/-- R162: REPT sets or clears the reports-enabled flag, NO-EFFECT where it stands so, and carries the numbers of records.
R185: RSET is answered OK and changes nothing until the last byte of its reply has been sent. R178: a request that finds a
reply outstanding is held as the pending request, and discarded with a link fault where one is held already. R1, R179: a
request whose reader field names no reader is refused with READER and changes nothing. -/
def Obligations.ReptAndRsetActAndOtherRequestsWait : Prop :=
  (∀ (tag : Byte) (on : Bool) (s : State), s.link.reply = none →
    let counts : List Byte := [BitVec.ofNat 8 s.queue.records.length, BitVec.ofNat 8 s.queue.dfctCount]
    Answers (if on then .reptOn tag else .reptOff tag) 0x18 tag s (s.onQueue fun q => { q with enabled := on })
      ((if s.queue.enabled = on then 0x03 else 0x00) :: counts)) ∧
  (∀ (tag : Byte) (s : State), s.link.reply = none →
    Completes (.rset tag) s
      (s.onLink fun k => { k with reply := some { type := 0x99, tag := tag, payload := [0x00], isRset := true } })) ∧
  (∀ (c : Instr) (tag : Byte) (q : Request) (rep : Reply) (s : State), requestOf c = some (tag, q) →
    s.link.reply = some rep →
    (s.link.pendingRequest = none → Completes c s
      (s.onLink fun k => { k with pendingRequest := some { type := q.code, tag := tag, payload := q.payload } })) ∧
    (∀ f : Frame, s.link.pendingRequest = some f → Completes c s (s.onLink fun k => { k with linkFault := true }))) ∧
  (∀ (c : Instr) (tag : Byte) (q : Request) (b : Byte) (s : State), requestOf c = some (tag, q) → q.readerField = some b →
    1 < b.toNat → q.lengthOk = true → s.link.reply = none → Answers c q.code tag s s [0x12])

/-! ## Events of a transport -/

/-- R3, R4, R5, R16: an entry event in STOPPED or ARMED moves the windows and sends the exiting samples; a reader whose clock
is lost takes none (log entry 8). -/
def Obligations.EntryBeforeStartMovesWindows : Prop :=
  ∀ (r : ReaderId) (x0 x1 : Sample) (first : Lane) (s : State),
    ((s.rd r).clockLost = true → Completes (.entryEvent r x0 x1 first) s s) ∧
    ((s.rd r).clockLost = false → (s.rd r).state = .stopped ∨ (s.rd r).state = .armed →
      Completes (.entryEvent r x0 x1 first) s (s.onReader r fun rd =>
        let enter := fun (ln : LaneState) (x : Sample) =>
          { ln with
            window := { sample := x, mark := false } :: ln.window.dropLast, lastEntered := x, beforeLast := ln.lastEntered }
        let exits := fun ln : LaneState => (ln.window.getLastD { sample := 0, mark := false }).sample
        { rd with
          lane0 := enter rd.lane0 x0, lane1 := enter rd.lane1 x1, output := some (exits rd.lane0, exits rd.lane1) }))

/-- R4, R17, R113, R128: an entry event in RUNNING sends each lane's filtered residual, or its twin's where the lane's
exiting sample is marked and the twin's is not, in TWIN mode. R4, R12: an entry event in BYPASSED sends the exiting samples,
and the hiss filters keep their state where no set waits to be applied. -/
def Obligations.OutputFollowsTheReaderState : Prop :=
  (∀ (r : ReaderId) (x0 x1 : Sample) (first : Lane) (s : State), (s.rd r).clockLost = false → (s.rd r).state = .running →
    ∃ t, exec (.entryEvent r x0 x1 first) s = .next t ∧
      let rd := s.rd r
      let cell := fun l : Lane => (rd.lane l).window.getLastD { sample := 0, mark := false }
      let y := fun l : Lane => ((rd.lane l).hiss.process rd.active ((rd.lane l).residual rd.hum (cell l).sample)).y
      let sent := fun l : Lane =>
        if rd.laneMode = .twin ∧ (cell l).mark = true ∧ (cell (twinOf l)).mark = false then y (twinOf l) else y l
      (t.rd r).output = some (sent .lane0, sent .lane1) ∧ (t.rd r).entered = rd.entered + 1 ∧ (t.rd r).state = .running ∧
      (t.rd r).laneMode = rd.laneMode ∧ (t.rd r).schedule = rd.schedule ∧ (t.rd r).exclusions = rd.exclusions ∧
      (t.rd (otherReader r)).calm = (s.rd (otherReader r)).calm ∧ t.link.reply = s.link.reply) ∧
  (∀ (r : ReaderId) (x0 x1 : Sample) (first : Lane) (s : State), (s.rd r).clockLost = false → (s.rd r).state = .bypassed →
    ∃ t, exec (.entryEvent r x0 x1 first) s = .next t ∧
      let rd := s.rd r
      let exits := fun l : Lane => ((rd.lane l).window.getLastD { sample := 0, mark := false }).sample
      (t.rd r).output = some (exits .lane0, exits .lane1) ∧ (t.rd r).entered = rd.entered + 1 ∧ (t.rd r).state = .bypassed ∧
      (rd.params.releases = false → ∀ l : Lane, ((t.rd r).lane l).hiss = (rd.lane l).hiss) ∧
      (t.rd (otherReader r)).calm = (s.rd (otherReader r)).calm)

/-- R111: each slot whose increment is in band advances its phase by it at each entry event in RUNNING and BYPASSED, and a
slot out of band keeps its phase; in STOPPED and ARMED no phase advances. R108, R109: the increments are computed from S and
the ACTIVE set anew at a pulse that gives S a value or brings an apply, and at FREE, and stand at any other pulse. R110: with
no apply, a slot that such a recomputation finds out of band becomes OUT-OF-BAND, with nothing kept, on each lane where it was
active. That this comes before a judgement and a period end of the same frame event is the model's choice (log entry 39). -/
def Obligations.PhasesAdvanceAndIncrementsFollowS : Prop :=
  (∀ (r : ReaderId) (x0 x1 : Sample) (first : Lane) (s : State), (s.rd r).clockLost = false →
    ∃ t, exec (.entryEvent r x0 x1 first) s = .next t ∧ ∀ i : Fin 12,
      let old := (s.rd r).hum.slots[i]
      (t.rd r).hum.slots[i].theta =
        if ((s.rd r).state = .running ∨ (s.rd r).state = .bypassed) ∧ old.delta.toNat < 2 ^ 31 then old.theta + old.delta
        else old.theta) ∧
  (∀ (r : ReaderId) (c : Instr) (s : State),
    (c = .realPulse r ∧ ((s.rd r).state = .running ∨ (s.rd r).state = .bypassed)) ∨ (c = .freeEntry r ∧ (s.rd r).freeDue = true) →
    ∃ t, exec c s = .next t ∧
      let rd := s.rd r
      let m := rd.monitor
      let inside := fun interval : Nat => decide (rd.active.pmin ≤ interval) && decide (interval ≤ rd.active.pmax)
      let seeds := fun interval : Nat => match m.state with
        | .tracking =>
          inside interval && (decide (m.smoothed - m.smoothed / 8 ≤ 16 * interval ∧ 16 * interval ≤ m.smoothed + m.smoothed / 8) ||
            (match m.rejected with
              | p1 :: _ :: _ => decide ((16 * (interval : Int) - 16 * p1).natAbs ≤ 16 * p1 / 8)
              | [_] => false
              | [] => false))
        | .holdover => false
        | .absent => inside interval
        | .free => inside interval
      let given := c == .freeEntry r || (match m.reference with
        | .valid t0 => !rd.clockLost && seeds ((rd.index + (2 ^ 48 - t0 % 2 ^ 48)) % 2 ^ 48)
        | .void _ => false
        | .none => false)
      let p := (t.rd r).active
      let increment := fun i : Fin 12 =>
        let q : Int := match p.hum[i].source with
          | .frame => roundQ (2 ^ 36 * p.hum[i].order) (t.rd r).monitor.smoothed
          | .mains => roundQ (2 ^ 36 * 100 * p.mains * p.hum[i].order) (p.nominalRate * (t.rd r).monitor.smoothed)
          | .fixed => p.hum[i].fixedInc
        BitVec.ofNat 32 (min q.toNat (2 ^ 32 - 1))
      (∀ i : Fin 12, (t.rd r).hum.slots[i].delta =
        if given || rd.params.releases then increment i else rd.hum.slots[i].delta) ∧
      (given = true → rd.params.releases = false → ∀ (l : Lane) (i : Fin 12),
        (rd.lane l).hum[i].status = .seeking ∨ (rd.lane l).hum[i].status = .locked → 2 ^ 31 ≤ (increment i).toNat →
        ((t.rd r).lane l).hum[i] =
          { wc := 0, ws := 0, status := .outOfBand, faultRun := 0, fresh := false, fault := false, aPrev := 0 }))

/-- R112: the sine table is odd about 2048 and even about 1024, its entries lie in -32 767 to 32 767, and the listed entries
are as listed. R113: a lane's residual is its sample less the estimates of its active slots, clamped. R114, R115: an entry
event in RUNNING that brings no frame event moves the weights of each active slot by the residual, held within their range
with FAULT set and FRESH cleared where they are held, and sets the adapted mark; where fallback acts it leaves both. -/
def Obligations.ResidualMovesTheWeights : Prop :=
  ((∀ j : Nat, 0 < j → j < 4096 → sineEntry (4096 - j) = -sineEntry j) ∧
  (∀ j : Nat, j ≤ 2048 → sineEntry (2048 - j) = sineEntry j) ∧
  (∀ j : Nat, j < 4096 → -32767 ≤ sineEntry j ∧ sineEntry j ≤ 32767) ∧
  sineEntry 0 = 0 ∧ sineEntry 256 = 12539 ∧ sineEntry 512 = 23170 ∧ sineEntry 1024 = 32767 ∧ sineEntry 1536 = 23170 ∧
  sineEntry 2048 = 0 ∧ sineEntry 3072 = -32767) ∧
  (∀ (ln : LaneState) (h : Hum) (x : Sample),
    let index := fun i : Fin 12 => h.slots[i].theta.toNat / 2 ^ 20
    let estimate := fun i : Fin 12 =>
      (ln.hum[i].wc * sineEntry ((index i + 1024) % 4096) + ln.hum[i].ws * sineEntry (index i)) / 2 ^ 15
    (ln.residual h x).toInt = max (-8388608) (min 8388607 (x.toInt - ((List.finRange 12).map fun i =>
      if ln.hum[i].status = .seeking ∨ ln.hum[i].status = .locked then estimate i else 0).sum))) ∧
  (∀ (r : ReaderId) (x0 x1 : Sample) (first : Lane) (s : State), (s.rd r).clockLost = false → (s.rd r).state = .running →
    ({ s.rd r with entered := (s.rd r).entered + 1 }).holdoverDue = false →
    ({ s.rd r with entered := (s.rd r).entered + 1 }).tickDue = false →
    ∃ t, exec (.entryEvent r x0 x1 first) s = .next t ∧ ∀ l : Lane,
      let rd := s.rd r
      let cell := fun l : Lane => (rd.lane l).window.getLastD { sample := 0, mark := false }
      let fallback := rd.laneMode = .twin ∧ (cell l).mark = true ∧ (cell (twinOf l)).mark = false
      let e := ((rd.lane l).residual rd.hum (cell l).sample).toInt
      let hold := fun w : Int => max (-8388607) (min 8388607 w)
      ((t.rd r).lane l).adapted = (if fallback then (rd.lane l).adapted else true) ∧
      ∀ i : Fin 12,
        let x := (rd.lane l).hum[i]
        let index := rd.hum.slots[i].theta.toNat / 2 ^ 20
        let wc := x.wc + e * sineEntry ((index + 1024) % 4096) / 2 ^ rd.active.hum[i].shift
        let ws := x.ws + e * sineEntry index / 2 ^ rd.active.hum[i].shift
        let held := decide (hold wc ≠ wc ∨ hold ws ≠ ws)
        ((t.rd r).lane l).hum[i] =
          if ¬ fallback ∧ (x.status = .seeking ∨ x.status = .locked) then
            { x with wc := hold wc, ws := hold ws, fault := x.fault || held, fresh := x.fresh && !held }
          else x)

/-- R15, R16: the judgement of both entering samples for STUCK, and the stuck marks that travel through the windows. -/
def Obligations.EntryJudgesStuckLanes : Prop :=
  ∀ (r : ReaderId) (x0 x1 : Sample) (first : Lane) (s : State), (s.rd r).clockLost = false →
    (s.rd r).state = .running ∨ (s.rd r).state = .bypassed →
    ∃ t, exec (.entryEvent r x0 x1 first) s = .next t ∧ ∀ l : Lane,
      let old := (s.rd r).lane l
      let new := (t.rd r).lane l
      let x := match l with
        | .lane0 => x0
        | .lane1 => x1
      let count := if x = old.lastEntered then min (old.equalRun + 1) 65535 else 0
      let stuck := if old.stuck then decide (x = old.lastEntered) else decide ((s.rd r).active.stuckCount ≤ count)
      new.lastEntered = x ∧ new.equalRun = count ∧ new.stuck = stuck ∧
      new.window.map (·.mark) = stuck :: (old.window.map (·.mark)).dropLast

/-- R42 to R48, R51, R56, R80, R81: the sample of an entry event in RUNNING on a lane in IDLE, judged by the second difference
against the envelope. A hot sample that no entry covers opens a run and files its OPEN entry, or, where the table holds 32
entries, saturates the lane and counts as unrecorded, with the gap flag set until a DFCT record carries it; a run whose first
span is above Lmax closes overlong at once. Any other sample opens nothing. The lane is taken first or its twin has no run to
close, and the entry event applies no set. -/
def Obligations.HotSampleOpensRunOrSaturates : Prop :=
  ∀ (r : ReaderId) (x0 x1 : Sample) (l first : Lane) (s : State), (s.rd r).state = .running → (s.rd r).clockLost = false →
    (s.rd r).params.releases = false → (s.rd r).active.detectorEnable = true → (s.rd r).active.guard ≤ 16 →
    2 ≤ ((s.rd r).lane l).detector.history → ((s.rd r).lane l).detector.run = .idle →
    (∀ y ∈ (s.rd r).table, isRunOf l y = false) → first = l ∨ ((s.rd r).lane (twinOf l)).detector.run ≠ .run →
    ∃ t, exec (.entryEvent r x0 x1 first) s = .next t ∧
      let rd := s.rd r
      let d := (rd.lane l).detector
      let new := ((t.rd r).lane l).detector
      let e := rd.entered
      let x := match l with
        | .lane0 => x0
        | .lane1 => x1
      let judged := ((t.rd r).lane l).stuck = false
      let mag := (x.toInt - 2 * d.prev1.toInt + d.prev2.toInt).natAbs
      let hot := judged ∧ rd.active.threshold * max d.envelope 16 < mag * 16
      let ratio := min (mag * 16 / max d.envelope 16) 65535
      let kept := rd.table.filter fun y => !(y.state == .committed && decide (y.spanEnd + 1024 ≤ e))
      let covered := ∃ y ∈ kept, y.lanes.has l = true ∧ y.spanStart ≤ e ∧ e ≤ y.spanEnd
      new.prev1 = x ∧ new.prev2 = d.prev1 ∧ new.history = d.history ∧
      new.envelope = (if judged ∧ ¬ hot then max 16 ((d.envelope : Int) + ((mag : Int) - d.envelope) / 2 ^ rd.active.envelopeRate).toNat
        else d.envelope) ∧
      (¬ hot ∨ covered → new.run = .idle ∧ new.quiet = d.quiet ∧ new.record = d.record) ∧
      (hot → ¬ covered → 32 ≤ kept.length →
        new.run = .saturated ∧ new.quiet = 0 ∧ min (rd.unrecorded + 1) 65535 ≤ (t.rd r).unrecorded ∧
        ((t.rd r).gap = true ∨ ∃ f : DfctFields, f.gapBefore = true ∧
          (r, ReportBody.dfct f) ∈ t.queue.bodies.drop s.queue.bodies.length)) ∧
      (hot → ¬ covered → kept.length + 1 < 32 ∨ (first = l ∧ kept.length < 32) →
        let start := kept.foldl (fun a y => if y.lanes.has l && decide (y.spanEnd < e) then max a (y.spanEnd + 1) else a)
          (max (e - rd.active.guard) (e + 1 - 1024))
        let last := kept.foldl (fun a y => if y.lanes.has l && decide (e < y.spanStart) then min a (y.spanStart - 1) else a)
          (e + rd.active.guard)
        if last + 1 - start ≤ rd.active.lmax then
          new.run = .run ∧ new.quiet = 0 ∧ new.record = some { firstHot := e, lastHot := e } ∧
          { lanes := .only l, kind := .click, spanStart := start, spanEnd := last, peak := ratio, state := .opened, cut := false
            method := none, number := none, captured := false } ∈ (t.rd r).table
        else
          new.run = .catchup ∧ new.quiet = 0 ∧ new.record = none ∧
          ∃ y ∈ (t.rd r).table, y.lanes = .only l ∧ y.kind = .click ∧ y.state = .committed ∧ y.spanStart = start ∧
            y.spanEnd = start + rd.active.lmax ∧ y.peak = ratio)

/-- R43, R46, R49 to R53, R56: the sample of an entry event in RUNNING on a lane in RUN, CATCHUP or SATURATED. A hot sample
that no other entry covers extends the run, which closes overlong above Lmax, and keeps a saturated lane waiting; another
counts as quiet, and at the merge gap plus one the run closes or the saturation ends; the first that is not hot ends the
catch-up. The lane is taken first or its twin has no run to close, and the entry event applies no set. -/
def Obligations.SampleActsOnRunState : Prop :=
  ∀ (r : ReaderId) (x0 x1 : Sample) (l first : Lane) (s : State), (s.rd r).state = .running → (s.rd r).clockLost = false →
    (s.rd r).params.releases = false → (s.rd r).active.detectorEnable = true → 2 ≤ ((s.rd r).lane l).detector.history →
    first = l ∨ ((s.rd r).lane (twinOf l)).detector.run ≠ .run →
    ∃ t, exec (.entryEvent r x0 x1 first) s = .next t ∧
      let rd := s.rd r
      let d := (rd.lane l).detector
      let new := ((t.rd r).lane l).detector
      let e := rd.entered
      let x := match l with
        | .lane0 => x0
        | .lane1 => x1
      let judged := ((t.rd r).lane l).stuck = false
      let mag := (x.toInt - 2 * d.prev1.toInt + d.prev2.toInt).natAbs
      let hot := judged ∧ rd.active.threshold * max d.envelope 16 < mag * 16
      let ratio := min (mag * 16 / max d.envelope 16) 65535
      let kept := rd.table.filter fun y => !(y.state == .committed && decide (y.spanEnd + 1024 ≤ e))
      let covered := ∃ y ∈ kept, isRunOf l y = false ∧ y.lanes.has l = true ∧ y.spanStart ≤ e ∧ e ≤ y.spanEnd
      let moved := max 16 ((d.envelope : Int) + ((mag : Int) - d.envelope) / 2 ^ rd.active.envelopeRate).toNat
      (d.run = .catchup → (∀ y ∈ rd.table, isRunOf l y = false) →
        new.envelope = (if judged then moved else d.envelope) ∧ (hot → new.run = .catchup) ∧
        (¬ hot → new.run = .idle ∧ new.quiet = 0 ∧ new.record = none)) ∧
      (d.run = .saturated → (∀ y ∈ rd.table, isRunOf l y = false) →
        new.envelope = (if judged ∧ ¬ hot then moved else d.envelope) ∧
        (hot → ¬ covered → new.run = .saturated ∧ new.quiet = 0) ∧
        (¬ hot ∨ covered → if d.quiet + 1 ≤ rd.active.mergeGap then new.run = .saturated ∧ new.quiet = d.quiet + 1
          else new.run = .idle ∧ new.quiet = 0)) ∧
      (∀ (y : Defect) (rec : RunRecord), d.run = .run → d.record = some rec → rd.table.countP (isRunOf l) = 1 → y ∈ rd.table →
        isRunOf l y = true → e < y.spanStart + 1023 →
        new.envelope = (if judged ∧ ¬ hot then moved else d.envelope) ∧
        (hot → ¬ covered →
          let last := kept.foldl (fun a y => if y.lanes.has l && decide (e < y.spanStart) then min a (y.spanStart - 1) else a)
            (e + rd.active.guard)
          if last + 1 - y.spanStart ≤ rd.active.lmax then
            new.run = .run ∧ new.quiet = 0 ∧ new.record = some { rec with lastHot := e } ∧
            { y with spanEnd := last, peak := max y.peak ratio } ∈ (t.rd r).table
          else
            new.run = .catchup ∧ new.quiet = 0 ∧ new.record = none ∧
            ∃ z ∈ (t.rd r).table, z.lanes = .only l ∧ z.kind = .click ∧ z.state = .committed ∧ z.spanStart = y.spanStart ∧
              z.spanEnd = y.spanStart + rd.active.lmax ∧ z.peak = max y.peak ratio) ∧
        (¬ hot ∨ covered →
          if d.quiet + 1 ≤ rd.active.mergeGap then
            new.run = .run ∧ new.quiet = d.quiet + 1 ∧ new.record = some rec ∧ y ∈ (t.rd r).table
          else
            new.run = .idle ∧ new.quiet = 0 ∧ new.record = none ∧ ∀ z ∈ (t.rd r).table, isRunOf l z = false))

/-- R23, R24, R8, R9, R26: a pulse in STOPPED is ignored, and the first pulse in ARMED is the arming pulse, with timestamp 0
and without a count. -/
def Obligations.ArmingPulseStartsReader : Prop :=
  ∀ (r : ReaderId) (s : State),
    ((s.rd r).state = .stopped → Completes (.realPulse r) s s) ∧
    ((s.rd r).state = .armed → (s.rd r).params.RolesSound → ∃ t, exec (.realPulse r) s = .next t ∧
      let rd := s.rd r
      let p := rd.params.rotate.setOf .active
      (t.rd r).state = .running ∧ (t.rd r).entered = 0 ∧ (t.rd r).laneMode = rd.laneMode ∧
      (t.rd r).params = rd.params.rotate ∧
      (t.rd r).monitor =
        { state := .absent, smoothed := p.pn, frameCount := rd.pendingStart
          reference := if rd.clockLost then .void 0 else .valid 0
          rejected := [], lastEvent := 0, holdoverTicks := 0, glitches := 0 } ∧
      (t.rd r).exclusions = rd.exclusions ∧ (t.rd (otherReader r)).calm = (s.rd (otherReader r)).calm)

/-- R28: an accepted interval in TRACKING moves S one eighth of the way, with the rejected run emptied; a discarded one leaves
S and empties the rejected run. -/
def Obligations.TrackingFollowsAcceptedIntervals : Prop :=
  ∀ (r : ReaderId) (s : State), (s.rd r).state = .running ∨ (s.rd r).state = .bypassed →
    (s.rd r).monitor.state = .tracking →
    ∃ t, exec (.realPulse r) s = .next t ∧
      let rd := s.rd r
      let m := rd.monitor
      let taken : Monitor :=
        { m with
          frameCount := min (m.frameCount + 1) (2 ^ 32 - 1), rejected := [], lastEvent := rd.index
          reference := if rd.clockLost then .void rd.index else .valid rd.index }
      (∀ t0 : Nat, m.reference = .valid t0 → rd.clockLost = false →
        let interval := (rd.index + (2 ^ 48 - t0 % 2 ^ 48)) % 2 ^ 48
        rd.active.pmin ≤ interval → interval ≤ rd.active.pmax →
        m.smoothed - m.smoothed / 8 ≤ 16 * interval → 16 * interval ≤ m.smoothed + m.smoothed / 8 →
        (t.rd r).monitor = rd.monitorAfterApply
          { taken with smoothed := ((m.smoothed : Int) + (16 * (interval : Int) - m.smoothed) / 2 ^ 3).toNat }) ∧
      ((∀ t0 : Nat, m.reference ≠ .valid t0) ∨ rd.clockLost = true → (t.rd r).monitor = rd.monitorAfterApply taken) ∧
      (t.rd r).entered = rd.entered ∧ (t.rd (otherReader r)).calm = (s.rd (otherReader r)).calm

/-- R29, R30: a rejected interval in TRACKING counts as a glitch and acts on the rejected run; the third that agrees with the
first reseeds S. -/
def Obligations.RejectedIntervalsReseed : Prop :=
  ∀ (r : ReaderId) (s : State) (t0 : Nat), (s.rd r).state = .running ∨ (s.rd r).state = .bypassed →
    (s.rd r).monitor.state = .tracking → (s.rd r).monitor.reference = .valid t0 → (s.rd r).clockLost = false →
    let rd := s.rd r
    let m := rd.monitor
    let interval := (rd.index + (2 ^ 48 - t0 % 2 ^ 48)) % 2 ^ 48
    let inside := rd.active.pmin ≤ interval ∧ interval ≤ rd.active.pmax
    ¬ (inside ∧ m.smoothed - m.smoothed / 8 ≤ 16 * interval ∧ 16 * interval ≤ m.smoothed + m.smoothed / 8) →
    ∃ t, exec (.realPulse r) s = .next t ∧
      let agrees := fun first : Nat => (16 * (interval : Int) - 16 * first).natAbs ≤ 16 * first / 8
      let after : List Nat × Nat :=
        if ¬ inside then ([], m.smoothed)
        else match m.rejected with
          | [] => ([interval], m.smoothed)
          | [p1] => if agrees p1 then ([p1, interval], m.smoothed) else ([interval], m.smoothed)
          | p1 :: _ :: _ => if agrees p1 then ([], 16 * interval) else ([interval], m.smoothed)
      (t.rd r).monitor = rd.monitorAfterApply
        { m with
          frameCount := min (m.frameCount + 1) (2 ^ 32 - 1), lastEvent := rd.index, reference := .valid rd.index
          glitches := min (m.glitches + 1) 65535, rejected := after.1, smoothed := after.2 }

/-- R31, R34, R38: an interval within the bounds seeds S in ABSENT and FREE, another leaves S, and so does a pulse without a
measured interval, such as one taken while the clock is lost; a pulse in HOLDOVER ends it, with the clock lost or not. -/
def Obligations.PulseEntersTracking : Prop :=
  ∀ (r : ReaderId) (s : State), (s.rd r).state = .running ∨ (s.rd r).state = .bypassed →
    (s.rd r).monitor.state ≠ .tracking →
    ∃ t, exec (.realPulse r) s = .next t ∧
      let rd := s.rd r
      let m := rd.monitor
      let taken : Monitor :=
        { m with
          frameCount := min (m.frameCount + 1) (2 ^ 32 - 1), lastEvent := rd.index
          reference := if rd.clockLost then .void rd.index else .valid rd.index }
      (m.state = .holdover → (t.rd r).monitor = rd.monitorAfterApply
        { taken with state := .tracking, holdoverTicks := 0, rejected := [] }) ∧
      (m.state ≠ .holdover → (∀ t0 : Nat, m.reference ≠ .valid t0) ∨ rd.clockLost = true →
        (t.rd r).monitor = rd.monitorAfterApply { taken with rejected := [] }) ∧
      (m.state ≠ .holdover → rd.clockLost = false → ∀ t0 : Nat, m.reference = .valid t0 →
        let interval := (rd.index + (2 ^ 48 - t0 % 2 ^ 48)) % 2 ^ 48
        (rd.active.pmin ≤ interval ∧ interval ≤ rd.active.pmax → (t.rd r).monitor = rd.monitorAfterApply
          { taken with state := .tracking, smoothed := 16 * interval, rejected := [] }) ∧
        (interval < rd.active.pmin ∨ rd.active.pmax < interval → (t.rd r).monitor = rd.monitorAfterApply taken))

/-- R147, R150: a frame event in RUNNING or BYPASSED applies a STAGED set unless the hold flag withholds it: STAGED becomes
ACTIVE, ACTIVE becomes SPARE, EDIT and every slot's contents stay, sync-pending is cleared and the hold flag kept. The effects
are said beside the state u that the same frame event answers with the set withheld. R37: S is clamped into the new set's
range, and the rest of the monitor stands. R123: each increment is computed from the clamped S, and the phases stand; a slot
whose configuration changed is reset; another becomes OUT-OF-BAND with nothing kept where it was active and its new increment
is out of band, and else stands; the period counter starts anew where the monitor period changed. R132, R133: the hiss step
keeps to the new s_min, and turning the filter off ends its block at step 31. R152: an APLD report tells the apply. That a new
S recomputes the increments under the old set first is the model's choice (log entry 39). -/
def Obligations.FrameEventAppliesStagedSet : Prop :=
  ∀ (r : ReaderId) (c : Instr) (s : State), (s.rd r).params.RolesSound →
    (c = .realPulse r ∧ ((s.rd r).state = .running ∨ (s.rd r).state = .bypassed)) ∨
      (c = .virtualTick r ∧ (s.rd r).tickDue = true) ∨ (c = .holdoverEntry r ∧ (s.rd r).holdoverDue = true) ∨
      (c = .freeEntry r ∧ (s.rd r).freeDue = true) →
    ∃ t, exec c s = .next t ∧
    ∃ u, exec c (s.onReader r fun rd => { rd with params := { rd.params with hold := true, syncPending := false } }) = .next u ∧
      let rd := s.rd r
      let q := (t.rd r).params
      let applied := Role.staged ∈ rd.params.roles ∧ (rd.params.hold = false ∨ rd.params.syncPending = true)
      let moved := fun role : Role => match role with
        | .active => Role.spare
        | .edit => Role.edit
        | .staged => Role.active
        | .spare => Role.spare
      let old := rd.active
      let new := (t.rd r).active
      let m := (u.rd r).monitor
      let S := max (16 * new.pmin) (min m.smoothed (16 * new.pmax))
      let increment := fun i : Fin 12 =>
        let x : Int := match new.hum[i].source with
          | .frame => roundQ (2 ^ 36 * new.hum[i].order) S
          | .mains => roundQ (2 ^ 36 * 100 * new.mains * new.hum[i].order) (new.nominalRate * S)
          | .fixed => new.hum[i].fixedInc
        BitVec.ofNat 32 (min x.toNat (2 ^ 32 - 1))
      let changed := fun i : Fin 12 => old.hum[i] ≠ new.hum[i] ∨
        (new.hum[i].source = .mains ∧ (old.mains ≠ new.mains ∨ old.nominalRate ≠ new.nominalRate))
      let cleared := fun status : HumStatus =>
        ({ wc := 0, ws := 0, status := status, faultRun := 0, fresh := false, fault := false, aPrev := 0 } : HumLaneSlot)
      let cause : ApldCause := if c = .realPulse r then .pulse else .tick
      (¬ applied → q = rd.params) ∧
      (applied → q.hold = rd.params.hold ∧ q.syncPending = false ∧
        (∀ i : SlotId, q.slot i = { role := moved (rd.params.slot i).role, set := (rd.params.slot i).set }) ∧
        (t.rd r).monitor = { m with smoothed := S } ∧
        (∀ i : Fin 12, (t.rd r).hum.slots[i] = { theta := rd.hum.slots[i].theta, delta := increment i }) ∧
        (old.monitorPeriod = new.monitorPeriod → (t.rd r).hum.periodCounter = (u.rd r).hum.periodCounter) ∧
        (old.monitorPeriod ≠ new.monitorPeriod → (t.rd r).hum.periodCounter =
          if rd.state = .running ∧ 2 ≤ new.monitorPeriod then 1 else 0) ∧
        (∀ (l : Lane) (i : Fin 12),
          let x := (rd.lane l).hum[i]
          let active := x.status = .seeking ∨ x.status = .locked
          let after := ((t.rd r).lane l).hum[i]
          (changed i → after = cleared (if new.hum[i].enabled then
            (if 2 ^ 31 ≤ (increment i).toNat then .outOfBand else .seeking) else .off)) ∧
          (¬ changed i → ¬ active → after = x) ∧
          (¬ changed i → active → 2 ^ 31 ≤ (increment i).toNat → after = cleared .outOfBand) ∧
          (¬ changed i → active → (increment i).toNat < 2 ^ 31 →
            rd.state = .bypassed ∨ old.monitorPeriod = new.monitorPeriod → after = ((u.rd r).lane l).hum[i])) ∧
        (∀ l : Lane,
          let h := (rd.lane l).hiss
          ((t.rd r).lane l).hiss =
            if old.hissEnable = new.hissEnable then { h with step := max h.step new.minStep }
            else if new.hissEnable = true then h else { h with step := 31, blockSum := 0, blockCount := 0 }) ∧
        (s.queue.placeHeld = false → s.queue.records.length + 8 ≤ 64 → ∃ i : SlotId, (q.slot i).role = .active ∧
          (r, ReportBody.apld cause (rd.params.hold && rd.params.syncPending) i m.frameCount rd.index) ∈
            t.queue.bodies.drop s.queue.bodies.length))

/-- R96, R104: at a real pulse that brings the frame count to c, splices due before c leave the schedule, and the one due at
c leaves it unless the clock is lost (what then becomes of one due at 2^32 - 1 is log entry 37); ranges that end before c leave
the list. R96, R97, R99: with an empty table and no set applied, the splice due at a pulse opens over t - splice pre to
t + splice post - 1 on both lanes. R90, R96: each splice that leaves the schedule unopened is reported MISSED, in ascending
order of due frame, where its place is granted, and counts as unrecorded where it is refused. -/
def Obligations.PulseExpiresListsAndOpensDueSplice : Prop :=
  (∀ (r : ReaderId) (s : State), (s.rd r).state = .running ∨ (s.rd r).state = .bypassed →
    (s.rd r).schedule.Pairwise (fun x y => x.due < y.due) →
    ∃ t, exec (.realPulse r) s = .next t ∧
      let rd := s.rd r
      let c := min (rd.monitor.frameCount + 1) (2 ^ 32 - 1)
      (t.rd r).monitor.frameCount = c ∧
      (t.rd r).schedule = rd.schedule.filter (fun x => c < x.due || (x.due == c && rd.clockLost)) ∧
      (t.rd r).exclusions = rd.exclusions.filter (fun x => c ≤ x.last)) ∧
  (∀ (r : ReaderId) (x : SpliceEntry) (rest : List SpliceEntry) (s : State),
    (s.rd r).state = .running ∨ (s.rd r).state = .bypassed → (s.rd r).clockLost = false → (s.rd r).table = [] →
    (s.rd r).schedule = x :: rest → x.due = min ((s.rd r).monitor.frameCount + 1) (2 ^ 32 - 1) →
    (s.rd r).params.releases = false → 1 ≤ (s.rd r).active.splicePost →
    ∃ t, exec (.realPulse r) s = .next t ∧ (t.rd r).schedule = rest ∧
      (t.rd r).table =
        [{ lanes := .both, kind := .splice, state := .opened, spanStart := (s.rd r).entered - (s.rd r).active.splicePre
           spanEnd := (s.rd r).entered + (s.rd r).active.splicePost - 1, peak := 0, cut := false, method := none
           number := none, captured := false }]) ∧
  (∀ (r : ReaderId) (s : State), (s.rd r).state = .running ∨ (s.rd r).state = .bypassed → (s.rd r).params.releases = false →
    (s.rd r).schedule.Pairwise (fun x y => x.due < y.due) →
    (∀ x ∈ (s.rd r).schedule, x.due ≠ min ((s.rd r).monitor.frameCount + 1) (2 ^ 32 - 1)) →
    (s.rd r).unrecorded ≤ 65535 → (s.rd r).committedTotal < 2 ^ 32 →
    ∃ t, exec (.realPulse r) s = .next t ∧
      let rd := s.rd r
      let c := min (rd.monitor.frameCount + 1) (2 ^ 32 - 1)
      let k := (rd.schedule.filter fun x => x.due < c).length
      let missed := fun s : State => s.queue.bodies.filter fun x => match x.2 with
        | .dfct f => f.method == .missed
        | _ => false
      (s.queue.placeHeld = false → s.queue.dfctCount + k ≤ 56 → s.queue.records.length + k + 8 ≤ 64 →
        rd.nextNumber + k < 2 ^ 32 →
        missed t = missed s ++ ((List.range k).map fun i => (r, ReportBody.dfct
          { lanes := .both, kind := .splice, method := .missed, number := rd.nextNumber + i, spanStart := rd.index, length := 0
            peak := 0, frameCount := c, gapBefore := rd.gap && i == 0, captured := false })) ∧
        (t.rd r).nextNumber = rd.nextNumber + k ∧ (t.rd r).committedTotal = min (rd.committedTotal + k) (2 ^ 32 - 1) ∧
        (t.rd r).gap = (rd.gap && k == 0) ∧ (t.rd r).unrecorded = rd.unrecorded) ∧
      (56 ≤ s.queue.dfctOccupied →
        missed t = missed s ∧ (t.rd r).nextNumber = rd.nextNumber ∧ (t.rd r).unrecorded = min (rd.unrecorded + k) 65535 ∧
        (t.rd r).gap = (rd.gap || 0 < k)))

/-- R97, R98, R99, R57: the splice due at a pulse that applies no set absorbs every uncommitted CLICK entry that shares an
index with its span, a to b being the least span that holds the provisional one and all that shares an index with it; its
start is clipped after the COMMITTED and SPLICE entries that share an index with it; and it opens where the span is not empty
and the table has a place. An absorbed run ends on its lane. Else it is not opened: an empty span is reported MISSED, and
counts as unrecorded where it had absorbed an entry; a full table counts as unrecorded. -/
def Obligations.SpliceAbsorbsAndIsClipped : Prop :=
  ∀ (r : ReaderId) (x : SpliceEntry) (rest : List SpliceEntry) (a b : Nat) (s : State),
    (s.rd r).state = .running ∨ (s.rd r).state = .bypassed → (s.rd r).clockLost = false → (s.rd r).params.releases = false →
    (s.rd r).schedule = x :: rest → x.due = min ((s.rd r).monitor.frameCount + 1) (2 ^ 32 - 1) →
    1 ≤ (s.rd r).active.splicePost → (∀ y ∈ (s.rd r).table, y.spanStart ≤ y.spanEnd) →
    let rd := s.rd r
    let n := rd.entered
    let absorbs := fun (a b : Nat) (y : Defect) =>
      y.state != .committed && y.kind == .click && decide (y.spanStart ≤ b) && decide (a ≤ y.spanEnd)
    let holds := fun a b : Nat =>
      a ≤ n - rd.active.splicePre ∧ n + rd.active.splicePost - 1 ≤ b ∧
        ∀ y ∈ rd.table, absorbs a b y = true → a ≤ y.spanStart ∧ y.spanEnd ≤ b
    holds a b → (∀ a' b' : Nat, holds a' b' → a' ≤ a ∧ b ≤ b') →
    ∃ t, exec (.realPulse r) s = .next t ∧ (t.rd r).schedule = rest ∧
      let others := rd.table.filter fun y => !absorbs a b y
      let start := others.foldl (fun m y =>
        if (y.state == .committed || y.kind == .splice) && decide (y.spanStart ≤ b) && decide (a ≤ y.spanEnd)
        then max m (y.spanEnd + 1) else m) a
      let clipped := ∃ y ∈ rd.table, absorbs a b y = true ∧ y.spanStart < start
      let opens := start ≤ b ∧ others.length < 32
      (∀ y ∈ (t.rd r).table, absorbs a b y = false) ∧
      (∀ l : Lane, (∃ y ∈ rd.table, isRunOf l y = true ∧ absorbs a b y = true) →
        ((t.rd r).lane l).detector =
          { ((s.rd r).lane l).detector with run := .idle, quiet := 0, record := none }) ∧
      (opens → { lanes := .both, kind := .splice, spanStart := start, spanEnd := b, peak := 0, state := .opened, cut := false
                 method := none, number := none, captured := false } ∈ (t.rd r).table) ∧
      (¬ opens → (t.rd r).table = others) ∧
      (rd.unrecorded ≤ 65535 →
        (opens → clipped → min (rd.unrecorded + 1) 65535 ≤ (t.rd r).unrecorded) ∧
        (start ≤ b → ¬ opens → (t.rd r).gap = true ∧
          (clipped → (t.rd r).unrecorded = min (rd.unrecorded + 2) 65535) ∧
          (¬ clipped → (t.rd r).unrecorded = min (rd.unrecorded + 1) 65535)) ∧
        (b < start → s.queue.placeHeld = false → s.queue.dfctCount < 56 → s.queue.records.length + 8 ≤ 64 →
          let absorbed := rd.table.any (absorbs a b)
          (t.rd r).unrecorded = min (rd.unrecorded + absorbed.toNat) 65535 ∧ (t.rd r).gap = false ∧
          (r, ReportBody.dfct
            { lanes := .both, kind := .splice, method := .missed, number := rd.nextNumber, spanStart := rd.index, length := 0
              peak := 0, frameCount := min (rd.monitor.frameCount + 1) (2 ^ 32 - 1), gapBefore := rd.gap || absorbed
              captured := false }) ∈ t.queue.bodies))

/-- R19, R21, R38: losing the clock voids the reference, silences the output and offers a LANE report, and the first edge
after a loss ends it with another; both change nothing where there is nothing to change (log entry 8). R15, R16, R21: a lane
whose equal-run count has reached the stuck count becomes STUCK, with its last sample marked, and a LANE report names the
lanes that did. -/
def Obligations.ClockAndStuckLaneConditionsChange : Prop :=
  (∀ (r : ReaderId) (s : State),
    let rd := s.rd r
    let report := fun (cause : LaneCause) (lost : Bool) =>
      s.kept (r, .lane cause true true rd.lane0.stuck rd.lane1.stuck lost rd.monitor.frameCount rd.index)
    (rd.clockLost = false → Completes (.clockBack r) s s ∧ ∃ t, exec (.clockLost r) s = .next t ∧
      Ends (s.onReader r fun rd =>
        { rd with
          clockLost := true, output := none
          monitor := { rd.monitor with reference := match rd.monitor.reference with
            | .valid t0 => .void t0
            | .void t0 => .void t0
            | .none => .none } }) t ∧ Reports s t (report .clockLost true)) ∧
    (rd.clockLost = true → Completes (.clockLost r) s s ∧ ∃ t, exec (.clockBack r) s = .next t ∧
      Ends (s.onReader r fun rd => { rd with clockLost := false }) t ∧ Reports s t (report .clockBack false))) ∧
  (∀ (r : ReaderId) (s : State), (s.rd r).stuckDue = true →
    let rd := s.rd r
    let due := fun ln : LaneState => !ln.stuck && decide (rd.active.stuckCount ≤ ln.equalRun)
    let after := fun ln : LaneState =>
      if due ln then
        { ln with stuck := true, window := match ln.window with
            | [] => []
            | c :: rest => { c with mark := true } :: rest }
      else ln
    ∃ t, exec (.laneStuck r) s = .next t ∧
      Ends (s.onReader r fun rd => { rd with lane0 := after rd.lane0, lane1 := after rd.lane1 }) t ∧
      Reports s t (s.kept (r, .lane .stuck (due rd.lane0) (due rd.lane1) (after rd.lane0).stuck (after rd.lane1).stuck
        rd.clockLost rd.monitor.frameCount (index48 (rd.entered - 1)))))

/-! ## Events that the part brings about -/

/-- R32, R33: HOLDOVER is entered with its first virtual tick, and FREE with it where H is 1. R33, R35: a virtual tick
becomes the last frame event, counts in HOLDOVER, and brings FREE with S at Pn where it takes the count to H; it does not
move the frame count. An entry event in RUNNING or BYPASSED, its index advanced, brings the monitor the same where HOLDOVER
or a tick is then due, and leaves it as it stands where neither is. The three rows act only where their event is due
(log entry 2). -/
def Obligations.HoldoverTicksCountToFree : Prop :=
  let entersHoldover := fun rd : Reader => rd.monitorAfterApply
    (if 2 ≤ rd.active.holdover then
      { rd.monitor with state := .holdover, rejected := [], holdoverTicks := 1, lastEvent := rd.index }
    else
      { rd.monitor with
        state := .free, rejected := [], holdoverTicks := 0, lastEvent := rd.index, smoothed := rd.active.pn })
  let exhausts := fun rd : Reader =>
    decide (rd.monitor.state = .holdover ∧ rd.active.holdover ≤ rd.monitor.holdoverTicks + 1)
  let ticks := fun rd : Reader => rd.monitorAfterApply
    (if exhausts rd then
      { rd.monitor with
        state := .free, smoothed := rd.active.pn, holdoverTicks := 0, rejected := [], lastEvent := rd.index }
    else if rd.monitor.state = .holdover then
      { rd.monitor with holdoverTicks := rd.monitor.holdoverTicks + 1, lastEvent := rd.index }
    else { rd.monitor with lastEvent := rd.index })
  (∀ (r : ReaderId) (s : State), (s.rd r).holdoverDue = true →
    ∃ t, exec (.holdoverEntry r) s = .next t ∧
      let rd := s.rd r
      (t.rd r).monitor = entersHoldover rd ∧ (t.rd (otherReader r)).calm = (s.rd (otherReader r)).calm ∧
      ∃ more, t.queue.bodies =
        s.queue.bodies ++ s.kept (r, .frms .holdover .holdover rd.monitor.smoothed rd.monitor.frameCount rd.index) ++ more) ∧
  (∀ (r : ReaderId) (s : State), (s.rd r).tickDue = true →
    let rd := s.rd r
    (∃ t, exec (.virtualTick r) s = .next t ∧ (t.rd r).monitor = ticks rd ∧
      (t.rd r).schedule = rd.schedule ∧ (t.rd r).exclusions = rd.exclusions ∧
      (t.rd (otherReader r)).calm = (s.rd (otherReader r)).calm) ∧
    (exhausts rd = true → ∃ t, exec (.freeEntry r) s = .next t ∧ (t.rd r).monitor = ticks rd ∧
      ∃ more, t.queue.bodies =
        s.queue.bodies ++ s.kept (r, .frms .free .free rd.active.pn rd.monitor.frameCount rd.index) ++ more)) ∧
  (∀ (r : ReaderId) (x0 x1 : Sample) (first : Lane) (s : State), (s.rd r).clockLost = false →
    (s.rd r).state = .running ∨ (s.rd r).state = .bypassed →
    ∃ t, exec (.entryEvent r x0 x1 first) s = .next t ∧
      let rd := { s.rd r with entered := (s.rd r).entered + 1 }
      (t.rd r).monitor =
        if rd.holdoverDue then entersHoldover rd else if rd.tickDue then ticks rd else (s.rd r).monitor)

/-- R50, R54, R55, R72: a run that is due closes with its final span, and its lane's detector becomes IDLE. Where it overlaps
CLOSED entries of the twin alone, and the merge keeps within Lmax and overlaps no other entry, it becomes one entry with them.
Else it stays as it closed, and commits at once, with its post-context not needed, where the twin conditions hold for it.
A run of the twin that has opened behind the merged span at the same event cuts the merged entry (the model's choice, log
entry 38). R54: what a closing entry and the entries that it merges with become. -/
def Obligations.RunClosesAndTwinEntriesMerge : Prop :=
  (∀ (r : ReaderId) (l : Lane) (before after : List Defect) (d : Defect) (x : RunRecord) (s : State),
    (s.rd r).state = .running → (s.rd r).clockLost = false → (s.rd r).appliedSince = false →
    ((s.rd r).lane l).detector.run = .run → ((s.rd r).lane l).detector.record = some x →
    (s.rd r).active.mergeGap < ((s.rd r).lane l).detector.quiet → (s.rd r).table = before ++ d :: after →
    isRunOf l d = true → (∀ y ∈ before ++ after, isRunOf l y = false) →
    let rd := s.rd r
    let limit := fun (e : Nat) (y : Defect) => if y.lanes.has l && x.lastHot < y.spanStart then min e (y.spanStart - 1) else e
    let final := min ((before ++ d :: after).foldl limit (x.lastHot + rd.active.guard)) (rd.entered - 1)
    let c := { d with spanEnd := final, state := .closed }
    let put := fun table : List Defect => (s.onReader r fun rd => { rd with table := table }).onReader r fun rd =>
      rd.onLane l fun ln => { ln with detector := { ln.detector with run := .idle, quiet := 0, record := none } }
    let mate := fun y : Defect => y.state == .closed && y.kind == .click && y.lanes == .only (twinOf l) &&
      decide (y.spanStart ≤ c.spanEnd) && decide (c.spanStart ≤ y.spanEnd)
    let mates := (before ++ after).filter mate
    let others := (before ++ after).filter fun y => !mate y
    let whole := mergedEntry c mates
    let m := { whole with
      cut := whole.cut || others.any fun y => isRunOf (twinOf l) y && decide (whole.spanEnd < y.spanStart) }
    let merges := mates ≠ [] ∧ m.spanEnd + 1 - m.spanStart ≤ rd.active.lmax ∧
      ∀ y ∈ others, ¬ (y.spanStart ≤ m.spanEnd ∧ m.spanStart ≤ y.spanEnd)
    let twin := rd.laneMode = .twin ∧ (rd.lane (twinOf l)).stuck = false ∧
      (rd.lane (twinOf l)).markedIn rd.entered c.spanStart c.spanEnd = false ∧
      ∀ y ∈ before ++ after, y.lanes.has (twinOf l) = true → ¬ (y.spanStart ≤ c.spanEnd ∧ c.spanStart ≤ y.spanEnd)
    (merges → ∃ table : List Defect, table.Perm (m :: others) ∧
      ((before ++ d :: after).Pairwise (fun x y => x.spanStart ≤ y.spanStart) →
        table.Pairwise (fun x y => x.spanStart ≤ y.spanStart)) ∧
      Completes (.runClose r l) s (put table)) ∧
    (¬ merges → ¬ twin → Completes (.runClose r l) s (put (before ++ c :: after))) ∧
    (¬ merges → twin →
      Completes (.runClose r l) s (commitAt r before.length false (put (before ++ c :: after))))) ∧
  (∀ (c : Defect) (mates : List Defect),
    let m := mergedEntry c mates
    m.lanes = .both ∧ m.state = .closed ∧ m.kind = c.kind ∧
      (∀ d ∈ c :: mates, m.spanStart ≤ d.spanStart ∧ d.spanEnd ≤ m.spanEnd ∧ d.peak ≤ m.peak ∧ (d.cut = true → m.cut = true)) ∧
      (∃ d ∈ c :: mates, m.spanStart = d.spanStart) ∧ (∃ d ∈ c :: mates, m.spanEnd = d.spanEnd) ∧
      (∃ d ∈ c :: mates, m.peak = d.peak) ∧ (m.cut = true → ∃ d ∈ c :: mates, d.cut = true))

/-- R53, R67, R100, R130: the end of a saturation, the removal of committed entries that have left the window, the close of
splices whose span has entered, and the completion of a hiss block. -/
def Obligations.SmallReaderEvents : Prop :=
  ∀ (r : ReaderId) (l : Lane) (s : State), (s.rd r).clockLost = false →
    let rd := s.rd r
    (rd.state = .running → rd.appliedSince = false → (rd.lane l).detector.run = .saturated →
      rd.active.mergeGap < (rd.lane l).detector.quiet → Completes (.saturationEnd r l) s
        (s.onReader r fun rd => rd.onLane l fun ln =>
          { ln with detector := { ln.detector with run := .idle, quiet := 0, record := none } })) ∧
    (rd.state = .running ∨ rd.state = .bypassed → Completes (.entryRemoval r) s (s.onReader r fun rd =>
      { rd with table := rd.table.filter fun d => !(d.state == .committed && d.spanEnd + 1024 < rd.entered) })) ∧
    (rd.state = .running ∨ rd.state = .bypassed → Completes (.spliceClose r) s (s.onReader r fun rd =>
      { rd with table := rd.table.map fun d =>
          if d.state == .opened && d.kind == .splice && d.spanEnd < rd.entered then { d with state := .closed } else d })) ∧
    (rd.state = .running → rd.active.hissEnable = true → 64 ≤ (rd.lane l).hiss.blockCount →
      Completes (.hissBlockComplete r l) s (s.onReader r fun rd => rd.onLane l fun ln =>
        let p := rd.active
        { ln with hiss :=
          { ln.hiss with
            blockSum := 0, blockCount := 0
            step := if ln.hiss.blockSum / 64 * 16 < p.floor * p.margin then max (ln.hiss.step - 1) p.minStep
              else min (ln.hiss.step + p.upRate) 31 } }))

/-- R69, R70, R71: the CLOSED entries that are due commit at the event, keeping their spans, and no other entry changes; at the
window deadline an OPEN entry is closed first, before the sample that has just entered. An entry whose index entered before
this event is due too (log entry 17), and the three rows act on what stands when they come (log entry 2). After an entry event
in RUNNING or BYPASSED no entry of the reader is left due, and no splice whose span has entered is left OPEN (R100). -/
def Obligations.DueEntriesCommit : Prop :=
  (∀ (r : ReaderId) (c : Instr) (due : Defect → Bool) (s : State), (s.rd r).clockLost = false →
    (s.rd r).state = .running ∨ (s.rd r).state = .bypassed →
    let n := (s.rd r).entered
    (c = .postContextComplete r ∧ due = fun d => d.state == .closed && decide (d.spanEnd + (d.spanEnd + 1 - d.spanStart) < n)) ∨
      (c = .cutCommitAtB r ∧ due = fun d => d.state == .closed && d.cut && decide (d.spanEnd + 1 < n)) ∨
      (c = .windowDeadline r ∧ due = fun d => d.state != .committed && decide (d.spanStart + 1023 < n)) →
    ∃ t, exec c s = .next t ∧ (t.rd r).table.length = (s.rd r).table.length ∧
      (∀ k : Nat, ∀ d : Defect, (s.rd r).table[k]? = some d → ∃ d', (t.rd r).table[k]? = some d' ∧
        if due d then
          d'.state = .committed ∧ d'.method.isSome = true ∧ d'.lanes = d.lanes ∧ d'.kind = d.kind ∧ d'.peak = d.peak ∧
          d'.spanStart = d.spanStart ∧ d'.spanEnd = if d.state == .opened then min d.spanEnd (n - 2) else d.spanEnd
        else d' = d) ∧
      (∀ (l : Lane) (p : Nat), (((t.rd r).lane l).window[p]? ≠ ((s.rd r).lane l).window[p]?) →
        ∃ d ∈ (s.rd r).table, due d = true ∧ d.lanes.has l = true ∧ p < n ∧ d.spanStart ≤ n - 1 - p ∧ n - 1 - p ≤ d.spanEnd) ∧
      (∀ l : Lane, ((t.rd r).lane l).hum = ((s.rd r).lane l).hum ∧ ((t.rd r).lane l).hiss = ((s.rd r).lane l).hiss ∧
        ((t.rd r).lane l).stuck = ((s.rd r).lane l).stuck) ∧
      (t.rd r).entered = n ∧ (t.rd r).monitor = (s.rd r).monitor ∧ (t.rd r).hum = (s.rd r).hum ∧
      (t.rd r).schedule = (s.rd r).schedule ∧ (t.rd r).exclusions = (s.rd r).exclusions ∧ (t.rd r).params = (s.rd r).params ∧
      (t.rd (otherReader r)).calm = (s.rd (otherReader r)).calm) ∧
  (∀ (r : ReaderId) (x0 x1 : Sample) (first : Lane) (s : State), (s.rd r).clockLost = false →
    (s.rd r).state = .running ∨ (s.rd r).state = .bypassed →
    ∃ t, exec (.entryEvent r x0 x1 first) s = .next t ∧ ∀ d ∈ (t.rd r).table,
      let n := (t.rd r).entered
      (d.state = .closed → n ≤ d.spanEnd + (d.spanEnd + 1 - d.spanStart) ∧ (d.cut = true → n ≤ d.spanEnd + 1) ∧
        n ≤ d.spanStart + 1023) ∧
      (d.state = .opened → n ≤ d.spanStart + 1023 ∧ (d.kind = .splice → n ≤ d.spanEnd)))

/-- R117, R118, R119, R120: at a period end every slot that is SEEKING or LOCKED on a lane is settled there, and the hum-fault
flag and the period counter are set; slots of another status keep their state. R116, R117: a real pulse or a virtual tick in
RUNNING that applies no set judges the active slots of each lane whose adapted mark is set, clears the marks and counts, and
where the count reaches the monitor period it ends the period; the slots meant are those whose increment is in band after it
(R110). The row PERIOD_END acts only where a period is due (log entry 2). -/
def Obligations.PeriodEndSettlesSlots : Prop :=
  let active := fun x : HumLaneSlot => x.status == .seeking || x.status == .locked
  let settled := fun x : HumLaneSlot =>
    if active x then
      { x with
        status := if x.fault then (if 4 ≤ x.faultRun + 1 then .parked else .seeking)
          else if x.fresh then .locked else .seeking
        wc := if x.fault then 0 else x.wc, ws := if x.fault then 0 else x.ws, aPrev := if x.fault then 0 else x.aPrev
        faultRun := if x.fault then x.faultRun + 1 else 0, fresh := false, fault := false }
    else x
  let faulted := fun rd : Reader =>
    (rd.lane0.hum.any fun x => active x && x.fault) || (rd.lane1.hum.any fun x => active x && x.fault)
  (∀ (r : ReaderId) (s : State), (s.rd r).state = .running → (s.rd r).active.monitorPeriod ≤ (s.rd r).hum.periodCounter →
    ∃ t, exec (.periodEnd r) s = .next t ∧
      Ends (s.onReader r fun rd =>
        { rd with
          hum := { rd.hum with periodCounter := 0, humFault := faulted rd }
          lane0 := { rd.lane0 with hum := rd.lane0.hum.map settled }
          lane1 := { rd.lane1 with hum := rd.lane1.hum.map settled } }) t) ∧
  (∀ (r : ReaderId) (c : Instr) (s : State), (s.rd r).state = .running → (s.rd r).params.releases = false →
    c = .realPulse r ∨ (c = .virtualTick r ∧ (s.rd r).tickDue = true) ∨
      (c = .holdoverEntry r ∧ (s.rd r).holdoverDue = true) ∨ (c = .freeEntry r ∧ (s.rd r).freeDue = true) →
    ∃ t, exec c s = .next t ∧
      let rd := s.rd r
      let count := rd.hum.periodCounter + 1
      let inBand := fun i : Fin 12 => (t.rd r).hum.slots[i].delta.toNat < 2 ^ 31
      (t.rd r).hum.periodCounter = (if rd.active.monitorPeriod ≤ count then 0 else count) ∧
      (count < rd.active.monitorPeriod → (t.rd r).hum.humFault = rd.hum.humFault) ∧
      (rd.active.monitorPeriod ≤ count → (∀ i, inBand i) → (t.rd r).hum.humFault = faulted rd) ∧
      ∀ l : Lane, ((t.rd r).lane l).adapted = false ∧ ∀ i : Fin 12, inBand i →
        let x := (rd.lane l).hum[i]
        let a := max x.wc.natAbs x.ws.natAbs + min x.wc.natAbs x.ws.natAbs / 2
        let steady := !x.fault && decide (64 ≤ a ∧ ((a : Int) - x.aPrev).natAbs * 8 ≤ x.aPrev)
        let judged := if (rd.lane l).adapted && active x then { x with fresh := x.fresh || steady, aPrev := a } else x
        ((t.rd r).lane l).hum[i] = if rd.active.monitorPeriod ≤ count then settled judged else judged)

/-! ## The commit -/

/-- R78, R79: a commit whose DFCT place is refused is UNRECORDED: it takes no number, queues nothing, writes no sample,
raises the unrecorded counter and sets the gap flag. R78, R82, R83, R89: a granted commit gives the next number, queues its
DFCT record and writes samples of its span alone. R165, R166: an ARMED slot takes a defect that qualifies: it becomes HELD with
the toggle turned and copies the window values as they stood before the repair (what the copy holds beyond them is log
entry 20), and its CAPD record stands before the DFCT record, or is lost where no other place is free; a HELD slot marks the
defect missed. -/
def Obligations.CommitIsUnrecordedOrRecorded : Prop :=
  (∀ (r : ReaderId) (k : Nat) (d : Defect) (complete : Bool) (s : State), (s.rd r).table[k]? = some d →
    56 ≤ s.queue.dfctOccupied ∨ 64 ≤ s.queue.occupied →
    commitAt r k complete s = s.onReader r fun rd =>
      { rd with
        unrecorded := min (rd.unrecorded + 1) 65535, gap := true
        table := rd.table.set k { d with state := .committed, method := some .unrecorded } }) ∧
  (∀ (r : ReaderId) (k : Nat) (d : Defect) (complete : Bool) (s : State), (s.rd r).table[k]? = some d →
    s.queue.dfctOccupied < 56 → s.queue.occupied < 64 →
    let rd := s.rd r
    let n := rd.entered
    let t := commitAt r k complete s
    let m := rd.chooseMethod d complete
    let q := rd.capture.qualifier
    let qualifies := (match d.kind with
        | .click => q.clicks && decide (q.minPeak ≤ d.peak)
        | .splice => q.splices) && ((q.lane0 && d.lanes.has .lane0) || (q.lane1 && d.lanes.has .lane1))
    let takes := rd.capture.state == .armed && qualifies
    let first := max (d.spanStart - 32) (n - 1024)
    let count := min (min (d.spanEnd + 33) n - first) 320
    let copied := fun (l : Lane) (old : List Sample) =>
      if d.lanes.has l then (List.range count).map (fun i => sampleOf ((rd.lane l).value n (first + i))) ++ old.drop count
      else old
    let capture : Capture :=
      if takes then
        { rd.capture with
          state := .held, toggle := !rd.capture.toggle
          descriptor :=
            { number := rd.nextNumber, kind := d.kind, lanes := d.lanes.code, first := first % 2 ^ 48, count := count }
          copy0 := copied .lane0 rd.capture.copy0, copy1 := copied .lane1 rd.capture.copy1 }
      else { rd.capture with missed := rd.capture.missed || (rd.capture.state == .held && qualifies) }
    let capd := if takes ∧ s.queue.records.length + 1 < 64
      then [(r, ReportBody.capd rd.nextNumber (!rd.capture.toggle) d.lanes.code (first % 2 ^ 48) count)] else []
    t.queue.bodies = s.queue.bodies ++ capd ++ [(r, .dfct
      { lanes := d.lanes, kind := d.kind, method := m, number := rd.nextNumber, spanStart := d.spanStart % 2 ^ 48
        length := d.spanEnd + 1 - d.spanStart, peak := d.peak, frameCount := rd.monitor.frameCount, gapBefore := rd.gap
        captured := takes })] ∧
    t.queue.lost = (s.queue.lost || (takes && decide (64 ≤ s.queue.records.length + 1))) ∧
    t.queue.placeHeld = false ∧ t.queue.enabled = s.queue.enabled ∧ t.link = s.link ∧
    t.rd (otherReader r) = s.rd (otherReader r) ∧
    t.rd r =
      { rd with
        nextNumber := if 2 ^ 32 - 1 ≤ rd.nextNumber then 1 else rd.nextNumber + 1
        committedTotal := min (rd.committedTotal + 1) (2 ^ 32 - 1), gap := false, capture := capture
        table := rd.table.set k
          { d with state := .committed, method := some m, number := some rd.nextNumber, captured := takes }
        lane0 := { rd.lane0 with window := rd.repairedWindow .lane0 d m }
        lane1 := { rd.lane1 with window := rd.repairedWindow .lane1 d m } } ∧
    (∀ (l : Lane) (p : Nat), (rd.repairedWindow l d m)[p]? = ((rd.lane l).window[p]?).map fun c =>
      if m.replaces = true ∧ d.lanes.has l = true ∧ p < n ∧ d.spanStart ≤ n - 1 - p ∧ n - 1 - p ≤ d.spanEnd then
        { c with sample := sampleOf (rd.replacement l d m (n - 1 - p - d.spanStart)) }
      else c))

/-- R75: the choice of method and outcome, in the order of its table. -/
def Obligations.MethodFollowsItsOrder : Prop :=
  ∀ (rd : Reader) (d : Defect) (complete : Bool),
    let click := d.kind = .click
    let vetoed := ∃ x ∈ rd.exclusions, x.first ≤ rd.monitor.frameCount ∧ rd.monitor.frameCount ≤ x.last
    rd.chooseMethod d complete =
      if rd.state = .bypassed then .bypassed
      else if click ∧ vetoed then .vetoed
      else if click ∧ rd.active.lmax < d.spanEnd + 1 - d.spanStart then .passed
      else if rd.twinConditions d = true then .twin
      else if d.spanEnd + 1 - d.spanStart ≤ rd.active.linearLimit ∨ complete = false ∨ rd.preContext d = false then .linear
      else .fill

/-! ## Operations -/

/-- R88: every sample written by FILL or LINEAR lies between the least and greatest of the window values it was computed
from, so that no replacement needs a clamp. R86, R85, R87: the values that FILL, LINEAR and TWIN write, with p taken as q
where the sample before the span is not in the window or lies before the start point. -/
def Obligations.ReplacementsLieBetweenTheirSamples : Prop :=
  ∀ (rd : Reader) (l : Lane) (d : Defect) (i : Nat), d.spanStart ≤ d.spanEnd → i ≤ d.spanEnd - d.spanStart →
    let ln := rd.lane l
    let n := rd.entered
    let a := d.spanStart
    let b := d.spanEnd + 1
    let N := b - a
    let f := ln.value n (a - N + i)
    let g := ln.value n (b + i)
    let q := ln.value n b
    let p := if 1 ≤ a ∧ a - 1 < n ∧ n ≤ a - 1 + 1024 then ln.value n (a - 1) else q
    let rounded := fun num : Int => (2 * num + ((N : Int) + 1)) / (2 * ((N : Int) + 1))
    let fill := rd.replacement l d .fill i
    let linear := rd.replacement l d .linear i
    (fill = rounded (f * ((N : Int) - i) + g * ((i : Int) + 1)) ∧
      min f g ≤ fill ∧ fill ≤ max f g ∧ (sampleOf fill).toInt = fill) ∧
    (linear = p + rounded ((q - p) * ((i : Int) + 1)) ∧
      min p q ≤ linear ∧ linear ≤ max p q ∧ (sampleOf linear).toInt = linear) ∧
    rd.replacement l d .twin i = (rd.lane (twinOf l)).value n (a + i)

/-- R43: E becomes E plus (|d| - E) divided by 2^k, rounded down, and 16 where that is below 16. So it moves towards |d| and
stays within 16 and 2^25. -/
def Obligations.EnvelopeMovesTowardsTheDifference : Prop :=
  ∀ (rate envelope : Nat) (d : Detector) (x : Sample), 16 ≤ envelope → envelope ≤ 2 ^ 25 →
    let mag := (x.toInt - 2 * d.prev1.toInt + d.prev2.toInt).natAbs
    let after := envelopeAfter rate envelope (d.difference x)
    (after : Int) = max 16 ((envelope : Int) + ((mag : Int) - envelope) / 2 ^ rate) ∧
      mag ≤ 33554430 ∧ 16 ≤ after ∧ after ≤ 2 ^ 25 ∧
      (mag ≤ envelope → after ≤ envelope ∧ mag ≤ after) ∧ (envelope ≤ mag → envelope ≤ after ∧ after ≤ mag)

/-- R131: the enabled filter's new state y lies between the old one and the residual and is the old one plus its step's
share of the distance, rounded down; at step 31 it is the residual. R129, R130: the
residual becomes the previous one, its distance from the last joins the block, and the 64th moves the step and empties the
block. R132: the disabled filter takes the residual as its state and as the previous residual, and keeps its step and block.
R128: an entry event in RUNNING that applies no set has each lane's filter process the residual of its exiting sample. -/
def Obligations.HissFilterStaysBetweenStateAndResidual : Prop :=
  (∀ (h : Hiss) (p : ParamSet) (e : Sample), p.hissEnable = true → h.step ≤ 31 →
    let c : Int := 2048 * ((h.step : Int) + 1)
    let after := (h.process p e).y
    after.toInt = h.y.toInt + (e.toInt - h.y.toInt) * c / 2 ^ 16 ∧
      min h.y.toInt e.toInt ≤ after.toInt ∧ after.toInt ≤ max h.y.toInt e.toInt ∧ (h.step = 31 → after = e)) ∧
  (∀ (h : Hiss) (p : ParamSet) (e : Sample), p.hissEnable = true →
    let after := h.process p e
    let sum := h.blockSum + (e.toInt - h.prev.toInt).natAbs
    after.prev = e ∧
    (h.blockCount + 1 < 64 → after.step = h.step ∧ after.blockSum = sum ∧ after.blockCount = h.blockCount + 1) ∧
    (64 ≤ h.blockCount + 1 → after.blockSum = 0 ∧ after.blockCount = 0 ∧
      after.step = if sum / 64 * 16 < p.floor * p.margin then max (h.step - 1) p.minStep else min (h.step + p.upRate) 31)) ∧
  (∀ (h : Hiss) (p : ParamSet) (e : Sample), p.hissEnable = false → h.process p e = { h with y := e, prev := e }) ∧
  (∀ (r : ReaderId) (x0 x1 : Sample) (first : Lane) (s : State), (s.rd r).clockLost = false → (s.rd r).state = .running →
    (s.rd r).params.releases = false →
    ∃ t, exec (.entryEvent r x0 x1 first) s = .next t ∧ ∀ l : Lane,
      let rd := s.rd r
      let exits := ((rd.lane l).window.getLastD { sample := 0, mark := false }).sample
      ((t.rd r).lane l).hiss = (rd.lane l).hiss.process rd.active ((rd.lane l).residual rd.hum exits))

/-! ## The control link -/

/-- R179, R181: the type and the payload length of a frame decide whether it spells a request. -/
def Obligations.TypeAndLengthDecideTheRequest : Prop :=
  ∀ (type : Byte) (payload : List Byte),
    let lengths : List Nat := [0, 7, 1, 2, 0, 2, 1, 1, 1, 1, 5, 5, 1, 9, 5, 1, 5, 6, 1, 4, 1, 1, 1, 1, 0]
    (decodeRequest type payload = .unknown ↔ type.toNat = 0 ∨ 0x19 < type.toNat) ∧
    (1 ≤ type.toNat → type.toNat ≤ 0x19 → type.toNat ≠ 0x05 →
      ((∃ q, decodeRequest type payload = .request q) ↔ lengths[type.toNat - 1]? = some payload.length)) ∧
    (type.toNat = 0x05 → ((∃ q, decodeRequest type payload = .request q) ↔
      ∃ (r n : Byte) (rest : List Byte), payload = r :: n :: rest ∧ rest.length = 5 * n.toNat ∧ 1 ≤ n.toNat ∧ n.toNat ≤ 128))

/-- The frame of a request spells that request again: no bit of it is dropped (R181). -/
def Obligations.RequestFramesDecodeBack : Prop :=
  ∀ q : Request, q.lengthOk = true → decodeRequest q.code q.payload = .request q

/-- R174, R175, R178: the bytes of a request's frame, received one after another, bring about what the request's row does. -/
def Obligations.ReceivedFrameActsAsItsRequest : Prop :=
  ∀ (c : Instr) (tag : Byte) (q : Request) (s : State), requestOf c = some (tag, q) → c.wf = true →
    s.link.receiver = { state := .hunt, kept := [] } → s.arbitrate = s →
    receiveAll (frameBytes q.code tag q.payload) s = exec c s

/-- R175, R176, R177: a byte other than the sync in HUNT is dropped, the sync opens a frame, and a framing error or a gap of 2 ms
in mid-frame discards it with a link fault, while HUNT ignores both. R176: a length outside 2 to 1026, and a checksum that
fails, discard the frame with a link fault, and the bytes after its sync act as if they were received again from HUNT. -/
def Obligations.ReceiverHuntsAndDiscards : Prop :=
  (∀ (b : Byte) (s : State),
    let discarded := s.onLink fun k => { k with receiver := { state := .hunt, kept := [] }, linkFault := true }
    (s.link.receiver = { state := .hunt, kept := [] } →
      Completes (.receiveByte b true) s s ∧ Completes .interByteTimeout s s ∧
      Completes (.receiveByte b false) s
        (if b = 0xC3 then s.onLink fun k => { k with receiver := { state := .length, kept := [] } } else s)) ∧
    (s.link.receiver.state ≠ .hunt →
      Completes (.receiveByte b true) s discarded ∧ Completes .interByteTimeout s discarded)) ∧
  (∀ (lo hi : Byte) (s : State), s.link.receiver = { state := .length, kept := [lo] } →
    lo.toNat + 256 * hi.toNat < 2 ∨ 1026 < lo.toNat + 256 * hi.toNat →
    exec (.receiveByte hi false) s = receiveAll [lo, hi]
      (s.onLink fun k => { k with receiver := { state := .hunt, kept := [] }, linkFault := true })) ∧
  (∀ (lo hi b : Byte) (body : List Byte) (s : State),
    s.link.receiver = { state := .check, kept := lo :: hi :: body } → body.length = lo.toNat + 256 * hi.toNat →
    2 ≤ body.length → body.length ≤ 1026 → (lo :: hi :: (body ++ [b])).foldl (· + ·) 0 ≠ 0 → s.arbitrate = s →
    exec (.receiveByte b false) s = receiveAll (lo :: hi :: (body ++ [b]))
      (s.onLink fun k => { k with receiver := { state := .hunt, kept := [] }, linkFault := true }))

/-- R178: the pending request is taken once no reply is outstanding, as its row takes it, by the row of its own or at the end
of the reply that kept it waiting. R161, R178: the end of a record removes it from the queue, and the end of a reply that is
not RSET's ends its being outstanding. Where nothing waits to be taken, and where nothing is being sent, the rows change
nothing (the model's choice, log entry 2). -/
def Obligations.PendingRequestsAndSentMessagesLeave : Prop :=
  ((∀ (c : Instr) (tag : Byte) (q : Request) (s : State), requestOf c = some (tag, q) → c.wf = true → s.link.reply = none →
    s.link.pendingRequest = some { type := q.code, tag := tag, payload := q.payload } →
    ∃ t, exec .pendingRequestTaken s = .next t ∧ exec c (s.onLink fun k => { k with pendingRequest := none }) = .next t) ∧
  ∀ s : State, s.link.reply ≠ none ∨ s.link.pendingRequest = none → Completes .pendingRequestTaken s s) ∧
  (∀ (bytes : List Byte) (s : State),
    (s.link.transmitter = .idle → Completes .messageSent s s) ∧
    (s.link.transmitter = .report bytes → Completes .messageSent s
      ((s.onQueue fun q => { q with records := q.records.tail }).onLink fun k => { k with transmitter := .idle })) ∧
    (∀ rep : Reply, s.link.transmitter = .reply bytes → s.link.reply = some rep → rep.isRset = false →
      s.link.pendingRequest = none → Completes .messageSent s
        (s.onLink fun k => { k with transmitter := .idle, reply := none }))) ∧
  (∀ (c : Instr) (tag : Byte) (q : Request) (bytes : List Byte) (rep : Reply) (s : State), requestOf c = some (tag, q) →
    c.wf = true → s.link.transmitter = .reply bytes → s.link.reply = some rep → rep.isRset = false →
    s.link.pendingRequest = some { type := q.code, tag := tag, payload := q.payload } →
    ∃ t, exec .messageSent s = .next t ∧
      exec c (s.onLink fun k => { k with transmitter := .idle, reply := none, pendingRequest := none }) = .next t)

/-- R159, R160: the arbiter's table, and the report-lost flag that the record it begins carries away. The row's level that
negates the pin is the model's choice (log entry 6). -/
def Obligations.ArbiterChoosesByItsTable : Prop :=
  ∀ (level : Bool) (s : State), s.link.transmitter = .idle →
    ∃ t, exec (.ctsAsserted level) s = .next t ∧ t.cts = level ∧
      (level = false → t = { s with cts := false }) ∧
      (level = true →
        (∀ rep : Reply, s.link.reply = some rep →
          t = { s with cts := true, link := { s.link with transmitter := .reply (frameBytes rep.type rep.tag rep.payload) } }) ∧
        (s.link.reply = none → s.queue.enabled = false ∨ s.queue.records = [] → t = { s with cts := true }) ∧
        (∀ (x : Record) (rest : List Record), s.link.reply = none → s.queue.enabled = true → s.queue.records = x :: rest →
          t.queue = { s.queue with records := { x with lost := s.queue.lost } :: rest, lost := false } ∧
          t.link = { s.link with transmitter := .report (Record.frame { x with lost := s.queue.lost }) } ∧
          t.readerA = s.readerA ∧ t.readerB = s.readerB))
end

