-- ==== Sys2Proof/Laws/PerInstr.lean ====
section
/-! SUPPORT. A statement about every command as syntax: a well-formed command's request fits a frame. -/

namespace Sys2Proof.Laws.Fits

/-- The payload of the request that a well-formed command carries has at most 1024 bytes (R174), and its reader field,
where it has one, is the payload's first byte (section 10.6). -/
def Statement (i : Instr) : Prop :=
  i.wf = true → ∀ tag q, Machine.requestOf i = some (tag, q) →
    q.payload.length ≤ 1024 ∧ ∀ b, q.readerField = some b → q.payload.head? = some b

/-- The payload of a SETW (R140). -/
theorem writes_length (ws : List FieldWrite) : (ws.flatMap Machine.writeBytes).length = 5 * ws.length := by
  induction ws with
  | nil => rfl
  | cons w ws ih =>
    simp only [List.flatMap_cons, List.length_append, ih, List.length_cons]
    simp [Machine.writeBytes, Machine.bytes32]
    omega

/-- Every command at once. -/
theorem holds (i : Instr) : Statement i := by
  intro hw t q h
  cases i <;> simp only [Machine.requestOf, Option.some.injEq, Prod.mk.injEq, reduceCtorEq] at h <;>
    obtain ⟨rfl, rfl⟩ := h <;>
    refine ⟨?_, fun b hb => by cases hb <;> rfl⟩
  case setw =>
    simp only [Instr.wf, decide_eq_true_eq] at hw
    simp only [Machine.Request.payload, List.length_cons, writes_length]
    omega
  all_goals simp [Machine.Request.payload, Machine.bytes32, Machine.bytes16]

theorem powerOn (rate : Bool) : Statement (.powerOn rate) := holds _
theorem reset (rate : Bool) : Statement (.reset rate) := holds _
theorem idnt (tag : Byte) : Statement (.idnt tag) := holds _
theorem strtImmediate (tag reader laneMode : Byte) (startFrame : BitVec 32) :
    Statement (.strtImmediate tag reader laneMode startFrame) := holds _
theorem strtAtFrame (tag reader laneMode : Byte) (startFrame : BitVec 32) :
    Statement (.strtAtFrame tag reader laneMode startFrame) := holds _
theorem stop (tag reader : Byte) : Statement (.stop tag reader) := holds _
theorem bypsOn (tag reader : Byte) : Statement (.bypsOn tag reader) := holds _
theorem bypsOff (tag reader : Byte) : Statement (.bypsOff tag reader) := holds _
theorem setw (tag reader : Byte) (writes : List FieldWrite) : Statement (.setw tag reader writes) := holds _
theorem setr (tag reader role : Byte) : Statement (.setr tag reader role) := holds _
theorem setc (tag reader : Byte) : Statement (.setc tag reader) := holds _
theorem hold (tag mask : Byte) : Statement (.hold tag mask) := holds _
theorem sync (tag mask : Byte) : Statement (.sync tag mask) := holds _
theorem rels (tag mask : Byte) : Statement (.rels tag mask) := holds _
theorem splm (tag reader : Byte) (picture : BitVec 32) : Statement (.splm tag reader picture) := holds _
theorem splc (tag reader : Byte) (due : BitVec 32) : Statement (.splc tag reader due) := holds _
theorem spll (tag reader : Byte) : Statement (.spll tag reader) := holds _
theorem exca (tag reader : Byte) (first last : BitVec 32) : Statement (.exca tag reader first last) := holds _
theorem excr (tag reader : Byte) (first : BitVec 32) : Statement (.excr tag reader first) := holds _
theorem excl (tag reader : Byte) : Statement (.excl tag reader) := holds _
theorem capa (tag reader kindMask : Byte) (minPeak : BitVec 16) (laneMask : Byte) :
    Statement (.capa tag reader kindMask minPeak laneMask) := holds _
theorem capr (tag reader lane : Byte) (offset count : BitVec 16) : Statement (.capr tag reader lane offset count) := holds _
theorem capx (tag reader : Byte) : Statement (.capx tag reader) := holds _
theorem wtch (tag reader : Byte) (mask : BitVec 16) (mode : Byte) : Statement (.wtch tag reader mask mode) := holds _
theorem wtcd (tag reader : Byte) : Statement (.wtcd tag reader) := holds _
theorem stat (tag reader : Byte) : Statement (.stat tag reader) := holds _
theorem humr (tag reader : Byte) : Statement (.humr tag reader) := holds _
theorem reptOn (tag : Byte) : Statement (.reptOn tag) := holds _
theorem reptOff (tag : Byte) : Statement (.reptOff tag) := holds _
theorem rset (tag : Byte) : Statement (.rset tag) := holds _
theorem entryEvent (r : ReaderId) (x0 x1 : Sample) (first : Lane) : Statement (.entryEvent r x0 x1 first) := holds _
theorem realPulse (r : ReaderId) : Statement (.realPulse r) := holds _
theorem clockLost (r : ReaderId) : Statement (.clockLost r) := holds _
theorem clockBack (r : ReaderId) : Statement (.clockBack r) := holds _
theorem laneStuck (r : ReaderId) : Statement (.laneStuck r) := holds _
theorem holdoverEntry (r : ReaderId) : Statement (.holdoverEntry r) := holds _
theorem virtualTick (r : ReaderId) : Statement (.virtualTick r) := holds _
theorem freeEntry (r : ReaderId) : Statement (.freeEntry r) := holds _
theorem runClose (r : ReaderId) (l : Lane) : Statement (.runClose r l) := holds _
theorem saturationEnd (r : ReaderId) (l : Lane) : Statement (.saturationEnd r l) := holds _
theorem postContextComplete (r : ReaderId) : Statement (.postContextComplete r) := holds _
theorem cutCommitAtB (r : ReaderId) : Statement (.cutCommitAtB r) := holds _
theorem windowDeadline (r : ReaderId) : Statement (.windowDeadline r) := holds _
theorem spliceClose (r : ReaderId) : Statement (.spliceClose r) := holds _
theorem entryRemoval (r : ReaderId) : Statement (.entryRemoval r) := holds _
theorem periodEnd (r : ReaderId) : Statement (.periodEnd r) := holds _
theorem hissBlockComplete (r : ReaderId) (l : Lane) : Statement (.hissBlockComplete r l) := holds _
theorem receiveByte (byte : Byte) (framingError : Bool) : Statement (.receiveByte byte framingError) := holds _
theorem interByteTimeout : Statement .interByteTimeout := holds _
theorem pendingRequestTaken : Statement .pendingRequestTaken := holds _
theorem ctsAsserted (level : Bool) : Statement (.ctsAsserted level) := holds _
theorem messageSent : Statement .messageSent := holds _

end Sys2Proof.Laws.Fits
end

