-- ==== Sys2Proof/Laws/State.lean ====
section
/-! SUPPORT. One lemma for each field and each update of a state, a reader and a lane. -/

namespace Sys2Proof.Machine

/-! ## The readers of a state -/

@[simp] theorem State.rd_a (s : State) : s.rd .a = s.readerA := rfl
@[simp] theorem State.rd_b (s : State) : s.rd .b = s.readerB := rfl

@[simp] theorem State.rd_onReader_self (s : State) (r : ReaderId) (f : Reader → Reader) :
    (s.onReader r f).rd r = f (s.rd r) := by cases r <;> rfl

theorem State.rd_onReader (s : State) (r k : ReaderId) (f : Reader → Reader) :
    (s.onReader r f).rd k = if k = r then f (s.rd r) else s.rd k := by cases r <;> cases k <;> rfl

theorem State.rd_onReader_of_ne (s : State) (r k : ReaderId) (f : Reader → Reader) (h : k ≠ r) :
    (s.onReader r f).rd k = s.rd k := by rw [State.rd_onReader, if_neg h]

@[simp] theorem State.onReader_onReader (s : State) (r : ReaderId) (f g : Reader → Reader) :
    (s.onReader r f).onReader r g = s.onReader r (fun x => g (f x)) := by cases r <;> rfl

@[simp] theorem State.onReader_queue (s : State) (r : ReaderId) (f : Reader → Reader) :
    (s.onReader r f).queue = s.queue := by cases r <;> rfl
@[simp] theorem State.onReader_link (s : State) (r : ReaderId) (f : Reader → Reader) :
    (s.onReader r f).link = s.link := by cases r <;> rfl
@[simp] theorem State.onReader_cts (s : State) (r : ReaderId) (f : Reader → Reader) :
    (s.onReader r f).cts = s.cts := by cases r <;> rfl
@[simp] theorem State.onReader_ratePin (s : State) (r : ReaderId) (f : Reader → Reader) :
    (s.onReader r f).ratePin = s.ratePin := by cases r <;> rfl
@[simp] theorem State.onReader_freeTick (s : State) (r : ReaderId) (f : Reader → Reader) :
    (s.onReader r f).freeTick = s.freeTick := by cases r <;> rfl
@[simp] theorem State.onReader_pending (s : State) (r : ReaderId) (f : Reader → Reader) :
    (s.onReader r f).pending = s.pending := by cases r <;> rfl

/-! ## onQueue -/

@[simp] theorem State.onQueue_queue (s : State) (f : ReportQueue → ReportQueue) : (s.onQueue f).queue = f s.queue := rfl
@[simp] theorem State.rd_onQueue (s : State) (f : ReportQueue → ReportQueue) (r : ReaderId) : (s.onQueue f).rd r = s.rd r := by
  cases r <;> rfl
@[simp] theorem State.onQueue_readerA (s : State) (f : ReportQueue → ReportQueue) : (s.onQueue f).readerA = s.readerA := rfl
@[simp] theorem State.onQueue_readerB (s : State) (f : ReportQueue → ReportQueue) : (s.onQueue f).readerB = s.readerB := rfl
@[simp] theorem State.onQueue_link (s : State) (f : ReportQueue → ReportQueue) : (s.onQueue f).link = s.link := rfl
@[simp] theorem State.onQueue_cts (s : State) (f : ReportQueue → ReportQueue) : (s.onQueue f).cts = s.cts := rfl
@[simp] theorem State.onQueue_ratePin (s : State) (f : ReportQueue → ReportQueue) : (s.onQueue f).ratePin = s.ratePin := rfl
@[simp] theorem State.onQueue_freeTick (s : State) (f : ReportQueue → ReportQueue) : (s.onQueue f).freeTick = s.freeTick := rfl
@[simp] theorem State.onQueue_pending (s : State) (f : ReportQueue → ReportQueue) : (s.onQueue f).pending = s.pending := rfl

/-! ## onLink -/

@[simp] theorem State.onLink_link (s : State) (f : Link → Link) : (s.onLink f).link = f s.link := rfl
@[simp] theorem State.rd_onLink (s : State) (f : Link → Link) (r : ReaderId) : (s.onLink f).rd r = s.rd r := by
  cases r <;> rfl
@[simp] theorem State.onLink_readerA (s : State) (f : Link → Link) : (s.onLink f).readerA = s.readerA := rfl
@[simp] theorem State.onLink_readerB (s : State) (f : Link → Link) : (s.onLink f).readerB = s.readerB := rfl
@[simp] theorem State.onLink_queue (s : State) (f : Link → Link) : (s.onLink f).queue = s.queue := rfl
@[simp] theorem State.onLink_cts (s : State) (f : Link → Link) : (s.onLink f).cts = s.cts := rfl
@[simp] theorem State.onLink_ratePin (s : State) (f : Link → Link) : (s.onLink f).ratePin = s.ratePin := rfl
@[simp] theorem State.onLink_freeTick (s : State) (f : Link → Link) : (s.onLink f).freeTick = s.freeTick := rfl
@[simp] theorem State.onLink_pending (s : State) (f : Link → Link) : (s.onLink f).pending = s.pending := rfl

/-! ## The lanes of a reader -/

@[simp] theorem Reader.lane_lane0 (rd : Reader) : rd.lane .lane0 = rd.lane0 := rfl
@[simp] theorem Reader.lane_lane1 (rd : Reader) : rd.lane .lane1 = rd.lane1 := rfl

@[simp] theorem Reader.lane_onLane_self (rd : Reader) (l : Lane) (f : LaneState → LaneState) :
    (rd.onLane l f).lane l = f (rd.lane l) := by cases l <;> rfl

@[simp] theorem Reader.lane_onLane_twin (rd : Reader) (l : Lane) (f : LaneState → LaneState) :
    (rd.onLane l f).lane (twinOf l) = rd.lane (twinOf l) := by cases l <;> rfl

@[simp] theorem Reader.lane_onLanes (rd : Reader) (l : Lane) (f : LaneState → LaneState) :
    (rd.onLanes f).lane l = f (rd.lane l) := by cases l <;> rfl

@[simp] theorem Reader.onLane_state (rd : Reader) (l : Lane) (f : LaneState → LaneState) :
    (rd.onLane l f).state = rd.state := by cases l <;> rfl
@[simp] theorem Reader.onLane_laneMode (rd : Reader) (l : Lane) (f : LaneState → LaneState) :
    (rd.onLane l f).laneMode = rd.laneMode := by cases l <;> rfl
@[simp] theorem Reader.onLane_pendingStart (rd : Reader) (l : Lane) (f : LaneState → LaneState) :
    (rd.onLane l f).pendingStart = rd.pendingStart := by cases l <;> rfl
@[simp] theorem Reader.onLane_entered (rd : Reader) (l : Lane) (f : LaneState → LaneState) :
    (rd.onLane l f).entered = rd.entered := by cases l <;> rfl
@[simp] theorem Reader.onLane_clockLost (rd : Reader) (l : Lane) (f : LaneState → LaneState) :
    (rd.onLane l f).clockLost = rd.clockLost := by cases l <;> rfl
@[simp] theorem Reader.onLane_output (rd : Reader) (l : Lane) (f : LaneState → LaneState) :
    (rd.onLane l f).output = rd.output := by cases l <;> rfl
@[simp] theorem Reader.onLane_monitor (rd : Reader) (l : Lane) (f : LaneState → LaneState) :
    (rd.onLane l f).monitor = rd.monitor := by cases l <;> rfl
@[simp] theorem Reader.onLane_table (rd : Reader) (l : Lane) (f : LaneState → LaneState) :
    (rd.onLane l f).table = rd.table := by cases l <;> rfl
@[simp] theorem Reader.onLane_unrecorded (rd : Reader) (l : Lane) (f : LaneState → LaneState) :
    (rd.onLane l f).unrecorded = rd.unrecorded := by cases l <;> rfl
@[simp] theorem Reader.onLane_gap (rd : Reader) (l : Lane) (f : LaneState → LaneState) :
    (rd.onLane l f).gap = rd.gap := by cases l <;> rfl
@[simp] theorem Reader.onLane_nextNumber (rd : Reader) (l : Lane) (f : LaneState → LaneState) :
    (rd.onLane l f).nextNumber = rd.nextNumber := by cases l <;> rfl
@[simp] theorem Reader.onLane_committedTotal (rd : Reader) (l : Lane) (f : LaneState → LaneState) :
    (rd.onLane l f).committedTotal = rd.committedTotal := by cases l <;> rfl
@[simp] theorem Reader.onLane_schedule (rd : Reader) (l : Lane) (f : LaneState → LaneState) :
    (rd.onLane l f).schedule = rd.schedule := by cases l <;> rfl
@[simp] theorem Reader.onLane_exclusions (rd : Reader) (l : Lane) (f : LaneState → LaneState) :
    (rd.onLane l f).exclusions = rd.exclusions := by cases l <;> rfl
@[simp] theorem Reader.onLane_hum (rd : Reader) (l : Lane) (f : LaneState → LaneState) :
    (rd.onLane l f).hum = rd.hum := by cases l <;> rfl
@[simp] theorem Reader.onLane_params (rd : Reader) (l : Lane) (f : LaneState → LaneState) :
    (rd.onLane l f).params = rd.params := by cases l <;> rfl
@[simp] theorem Reader.onLane_capture (rd : Reader) (l : Lane) (f : LaneState → LaneState) :
    (rd.onLane l f).capture = rd.capture := by cases l <;> rfl
@[simp] theorem Reader.onLane_watch (rd : Reader) (l : Lane) (f : LaneState → LaneState) :
    (rd.onLane l f).watch = rd.watch := by cases l <;> rfl
@[simp] theorem Reader.onLane_appliedSince (rd : Reader) (l : Lane) (f : LaneState → LaneState) :
    (rd.onLane l f).appliedSince = rd.appliedSince := by cases l <;> rfl
@[simp] theorem Reader.onLanes_state (rd : Reader) (f : LaneState → LaneState) : (rd.onLanes f).state = rd.state := rfl
@[simp] theorem Reader.onLanes_laneMode (rd : Reader) (f : LaneState → LaneState) : (rd.onLanes f).laneMode = rd.laneMode := rfl
@[simp] theorem Reader.onLanes_pendingStart (rd : Reader) (f : LaneState → LaneState) : (rd.onLanes f).pendingStart = rd.pendingStart := rfl
@[simp] theorem Reader.onLanes_entered (rd : Reader) (f : LaneState → LaneState) : (rd.onLanes f).entered = rd.entered := rfl
@[simp] theorem Reader.onLanes_clockLost (rd : Reader) (f : LaneState → LaneState) : (rd.onLanes f).clockLost = rd.clockLost := rfl
@[simp] theorem Reader.onLanes_output (rd : Reader) (f : LaneState → LaneState) : (rd.onLanes f).output = rd.output := rfl
@[simp] theorem Reader.onLanes_monitor (rd : Reader) (f : LaneState → LaneState) : (rd.onLanes f).monitor = rd.monitor := rfl
@[simp] theorem Reader.onLanes_table (rd : Reader) (f : LaneState → LaneState) : (rd.onLanes f).table = rd.table := rfl
@[simp] theorem Reader.onLanes_unrecorded (rd : Reader) (f : LaneState → LaneState) : (rd.onLanes f).unrecorded = rd.unrecorded := rfl
@[simp] theorem Reader.onLanes_gap (rd : Reader) (f : LaneState → LaneState) : (rd.onLanes f).gap = rd.gap := rfl
@[simp] theorem Reader.onLanes_nextNumber (rd : Reader) (f : LaneState → LaneState) : (rd.onLanes f).nextNumber = rd.nextNumber := rfl
@[simp] theorem Reader.onLanes_committedTotal (rd : Reader) (f : LaneState → LaneState) : (rd.onLanes f).committedTotal = rd.committedTotal := rfl
@[simp] theorem Reader.onLanes_schedule (rd : Reader) (f : LaneState → LaneState) : (rd.onLanes f).schedule = rd.schedule := rfl
@[simp] theorem Reader.onLanes_exclusions (rd : Reader) (f : LaneState → LaneState) : (rd.onLanes f).exclusions = rd.exclusions := rfl
@[simp] theorem Reader.onLanes_hum (rd : Reader) (f : LaneState → LaneState) : (rd.onLanes f).hum = rd.hum := rfl
@[simp] theorem Reader.onLanes_params (rd : Reader) (f : LaneState → LaneState) : (rd.onLanes f).params = rd.params := rfl
@[simp] theorem Reader.onLanes_capture (rd : Reader) (f : LaneState → LaneState) : (rd.onLanes f).capture = rd.capture := rfl
@[simp] theorem Reader.onLanes_watch (rd : Reader) (f : LaneState → LaneState) : (rd.onLanes f).watch = rd.watch := rfl
@[simp] theorem Reader.onLanes_appliedSince (rd : Reader) (f : LaneState → LaneState) : (rd.onLanes f).appliedSince = rd.appliedSince := rfl

/-! ## The slots of a reader's parameter sets -/

@[simp] theorem Params.slot_onSlot_self (p : Params) (i : SlotId) (f : ParamSlot → ParamSlot) :
    (p.onSlot i f).slot i = f (p.slot i) := by cases i <;> rfl

theorem Params.slot_onSlot_of_ne (p : Params) (i j : SlotId) (f : ParamSlot → ParamSlot) (h : j ≠ i) :
    (p.onSlot i f).slot j = p.slot j := by cases i <;> cases j <;> first | rfl | exact absurd rfl h

@[simp] theorem Params.onSlot_hold (p : Params) (i : SlotId) (f : ParamSlot → ParamSlot) : (p.onSlot i f).hold = p.hold := by
  cases i <;> rfl

@[simp] theorem Params.onSlot_syncPending (p : Params) (i : SlotId) (f : ParamSlot → ParamSlot) :
    (p.onSlot i f).syncPending = p.syncPending := by cases i <;> rfl

end Sys2Proof.Machine
end

