-- ==== Sys2Proof/Laws/Queue.lean ====
section
/-! SUPPORT. What the shared operations on the report queue, the watches and the transmitter can do: one lemma each. -/

namespace Sys2Proof.Machine

/-! ## The places of the queue (R157, R158) -/

/-- Filling a granted place joins the record to the tail and gives the place up. -/
theorem ReportQueue.bodies_fill (q : ReportQueue) (x : Record) :
    (q.fill x).bodies = q.bodies ++ [(x.reader, x.body)] ∧ (q.fill x).placeHeld = false := by
  simp [ReportQueue.fill, ReportQueue.bodies]

/-- An offered report joins the tail where a place is free, and is dropped otherwise. -/
theorem ReportQueue.bodies_offer (q : ReportQueue) (x : Record) :
    (q.offer x).bodies = q.bodies ++ if q.occupied < 64 then [(x.reader, x.body)] else [] := by
  unfold ReportQueue.offer ReportQueue.bodies
  split <;> simp_all

/-- An offer keeps the place that is held and the enabled flag, and sets the report-lost flag only where it drops. -/
theorem ReportQueue.offer_flags (q : ReportQueue) (x : Record) :
    (q.offer x).placeHeld = q.placeHeld ∧ (q.offer x).enabled = q.enabled ∧
      (q.offer x).lost = (q.lost || !decide (q.occupied < 64)) := by
  unfold ReportQueue.offer
  split <;> simp_all

/-- An offer of a report other than DFCT keeps the queue within its places (R157). -/
theorem ReportQueue.sound_offer (q : ReportQueue) (x : Record) (hx : x.body.isDfct = false) (h : q.Sound) : (q.offer x).Sound := by
  obtain ⟨h1, h2, h3⟩ := h
  unfold ReportQueue.offer
  split
  · rename_i hlt
    simp only [ReportQueue.occupied, h3, Bool.toNat_false, Config.queueCapacity] at hlt
    refine ⟨by simp; omega, ?_, h3⟩
    simpa [ReportQueue.dfctCount, hx] using h2
  · exact ⟨h1, h2, h3⟩

/-- A DFCT record that fills a place granted by R157 keeps the queue within its places. -/
theorem ReportQueue.sound_fill (q : ReportQueue) (x : Record) (hg : q.records.length < 64) (hd : q.dfctCount < 56) :
    (q.fill x).Sound := by
  refine ⟨by simp [ReportQueue.fill]; omega, ?_, rfl⟩
  simp only [ReportQueue.fill, ReportQueue.dfctCount, List.countP_append] at *
  have : List.countP (fun y : Record => y.body.isDfct) [x] ≤ 1 := by
    simpa using List.countP_le_length (p := fun y : Record => y.body.isDfct) (l := [x])
  omega

@[simp] theorem State.rd_offer (s : State) (r k : ReaderId) (b : ReportBody) : (s.offer r b).rd k = s.rd k := by
  simp [State.offer]
@[simp] theorem State.link_offer (s : State) (r : ReaderId) (b : ReportBody) : (s.offer r b).link = s.link := rfl
@[simp] theorem State.cts_offer (s : State) (r : ReaderId) (b : ReportBody) : (s.offer r b).cts = s.cts := rfl
@[simp] theorem State.ratePin_offer (s : State) (r : ReaderId) (b : ReportBody) : (s.offer r b).ratePin = s.ratePin := rfl
@[simp] theorem State.pending_offer (s : State) (r : ReaderId) (b : ReportBody) : (s.offer r b).pending = s.pending := rfl

/-- The reports of the queue after an offer are those before it and the offered one, where it is kept. -/
theorem State.bodies_offer (s : State) (r : ReaderId) (b : ReportBody) :
    (s.offer r b).queue.bodies = s.queue.bodies ++ s.kept (r, b) := by
  simp [State.offer, ReportQueue.bodies_offer, State.kept]

/-! ## What the end of a command may do -/

theorem Ends.refl (s : State) : Ends s s :=
  ⟨rfl, rfl, id, id, rfl, rfl, rfl, rfl, rfl, fun _ => rfl, rfl, rfl, rfl, rfl, rfl⟩

theorem Ends.trans {s t u : State} (a : Ends s t) (b : Ends t u) : Ends s u where
  readerA := b.readerA.trans a.readerA
  readerB := b.readerB.trans a.readerB
  armedA h := a.armedA (b.armedA h)
  armedB h := a.armedB (b.armedB h)
  receiver := b.receiver.trans a.receiver
  pendingRequest := b.pendingRequest.trans a.pendingRequest
  reply := b.reply.trans a.reply
  linkFault := b.linkFault.trans a.linkFault
  rate := b.rate.trans a.rate
  busy h := by
    have h1 := a.busy h
    rw [b.busy (by rwa [h1]), h1]
  enabled := b.enabled.trans a.enabled
  placeHeld := b.placeHeld.trans a.placeHeld
  cts := b.cts.trans a.cts
  ratePin := b.ratePin.trans a.ratePin
  pending := b.pending.trans a.pending

theorem Reports.refl (s : State) : Reports s s [] := ⟨[], by simp, by simp⟩

/-- Reports and then alerts alone are reports still. -/
theorem Reports.trans {s t u : State} {xs : List (ReaderId × ReportBody)} (a : Reports s t xs) (b : Reports t u []) :
    Reports s u xs := by
  obtain ⟨as, h1, h2⟩ := a
  obtain ⟨bs, h3, h4⟩ := b
  refine ⟨as ++ bs, by simp [h3, h1], fun x hx => ?_⟩
  rcases List.mem_append.mp hx with h | h
  · exact h2 x h
  · exact h4 x h

theorem Settles.refl (s : State) : Settles s s := ⟨Ends.refl s, Reports.refl s⟩

theorem Settles.trans {s t u : State} (a : Settles s t) (b : Settles t u) : Settles s u :=
  ⟨a.1.trans b.1, a.2.trans b.2⟩

/-! ## The watches (R170, R186) -/

/-- A watch that fires offers an alert and is disarmed; nothing else changes. -/
theorem State.fireWatch_settles (s : State) (r : ReaderId) (c : BitVec 16) : Settles s (s.fireWatch r c) := by
  constructor
  · cases r <;> constructor <;> simp [State.fireWatch, State.onReader, State.offer, State.onQueue, Reader.calm,
      ReportQueue.offer_flags]
  · refine ⟨s.kept (r, .alrt c (s.rd r).watch.mask (s.rd r).watch.mode (s.rd r).monitor.frameCount (s.rd r).index), ?_, ?_⟩
    · simp [State.fireWatch, State.bodies_offer]
    · unfold State.kept
      split <;> simp [ReportBody.isAlrt]

theorem State.evaluateWatch_settles (s : State) (r : ReaderId) : Settles s (s.evaluateWatch r) := by
  unfold State.evaluateWatch
  split
  · exact s.fireWatch_settles r _
  · exact Settles.refl s

/-- The count of free values is the model's own, and no claim reads it. -/
theorem Settles.of_freeTick {s t : State} {n : Nat} (h : Settles { s with freeTick := n } t) : Settles s t := by
  obtain ⟨⟨h1, h2, h3, h4, h5, h6, h7, h8, h9, h10, h11, h12, h13, h14, h15⟩, h16⟩ := h
  exact ⟨⟨h1, h2, h3, h4, h5, h6, h7, h8, h9, h10, h11, h12, h13, h14, h15⟩, h16⟩

/-- All that the evaluation of the watches can do: offer alerts and disarm watches (R170). -/
theorem State.evaluateWatches_settles (s : State) : Settles s s.evaluateWatches := by
  unfold State.evaluateWatches
  dsimp only
  split
  · split
    · exact Settles.of_freeTick ((State.fireWatch_settles _ .a _).trans (State.fireWatch_settles _ .b _))
    · exact Settles.of_freeTick ((State.fireWatch_settles _ .b _).trans (State.fireWatch_settles _ .a _))
  · split
    · exact (State.fireWatch_settles _ .a _).trans (State.evaluateWatch_settles _ .b)
    · split
      · exact (State.fireWatch_settles _ .b _).trans (State.evaluateWatch_settles _ .a)
      · exact Settles.refl s

/-- What an evaluation for a change can do is what an evaluation can do, or nothing. -/
theorem State.evaluateChange_settles (old s : State) : Settles s (State.evaluateChange old s) := by
  unfold State.evaluateChange
  split
  · exact Settles.refl s
  · exact s.evaluateWatches_settles

/-! ## The arbiter (R160) -/

/-- The head record's report-lost field does not touch the reports as they are listed. -/
@[simp] theorem ReportQueue.bodies_beginHead (q : ReportQueue) : q.beginHead.bodies = q.bodies := by
  unfold ReportQueue.beginHead ReportQueue.bodies
  split <;> simp_all

/-- All that the arbiter can do: begin a message on a free transmitter. -/
theorem State.arbitrate_settles (s : State) : Settles s s.arbitrate := by
  unfold State.arbitrate
  split
  · exact Settles.refl s
  · exact Settles.refl s
  · rename_i hi
    split
    · split
      · refine ⟨⟨rfl, rfl, id, id, rfl, rfl, rfl, rfl, rfl, fun h => absurd hi h, rfl, rfl, rfl, rfl, rfl⟩, [], ?_, by simp⟩
        simp
      · split
        · split
          · exact Settles.refl s
          · refine ⟨⟨rfl, rfl, id, id, rfl, rfl, rfl, rfl, rfl, fun h => absurd hi h, ?_, ?_, rfl, rfl, rfl⟩, [], ?_, by simp⟩
            · show s.queue.beginHead.enabled = _
              unfold ReportQueue.beginHead
              split <;> rfl
            · show s.queue.beginHead.placeHeld = _
              unfold ReportQueue.beginHead
              split <;> rfl
            · simp
        · exact Settles.refl s
    · exact Settles.refl s

/-- A command whose meaning ends with the watches and the arbiter completes with its own effects. -/
theorem completes_of_watches {c : Instr} {s e : State} (h : exec c s = .next e.evaluateWatches.arbitrate) : Completes c s e :=
  ⟨_, h, e.evaluateWatches_settles.trans (State.arbitrate_settles _)⟩

/-- A command whose meaning ends with the arbiter alone completes with its own effects. -/
theorem completes_of_arbitrate {c : Instr} {s e : State} (h : exec c s = .next e.arbitrate) : Completes c s e :=
  ⟨_, h, State.arbitrate_settles _⟩

/-! ## Requests that are taken (R178, R179) -/

/-- With no reply outstanding, a request is taken: its answer's state with its reply outstanding, then the watches. -/
theorem dispatchRequest_of_free {s : State} (tag : Byte) (q : Request) (h : s.link.reply = none) :
    dispatchRequest tag q s = takeRequest tag q s := by
  simp [dispatchRequest, h]

/-- A request row that a free link takes answers what its handler answers. -/
theorem answers_of_judge {c : Instr} {tag : Byte} {q : Request} {s e : State} {payload : List Byte}
    (hc : exec c s = .next (dispatchRequest tag q s).arbitrate) (hr : s.link.reply = none) (hq : q ≠ .rset)
    (ht : replyType q.code = q.code + 0x80) (h : judgeRequest q s = { state := e, payload := payload }) :
    Answers c q.code tag s e payload := by
  apply completes_of_watches
  rw [hc, dispatchRequest_of_free tag q hr]
  have : (q == Request.rset) = false := by simpa using hq
  simp only [takeRequest, becomeOutstanding, h, this, ht, State.replied]

/-- A request that names a reader and whose length is right is judged by that reader (R179). -/
theorem judgeRequest_of_reader {q : Request} {s : State} {r : ReaderId} (hl : q.lengthOk = true)
    (hb : q.readerField = some (readerCode r)) : judgeRequest q s = takeForReader r q s := by
  cases r <;> simp [judgeRequest, hl, hb, readerOf, readerCode]

/-- A request without a reader field whose length is right is judged for the part (R179). -/
theorem judgeRequest_of_part {q : Request} {s : State} (hl : q.lengthOk = true) (hb : q.readerField = none) :
    judgeRequest q s = takeForReader .a q s := by
  simp [judgeRequest, hl, hb]

end Sys2Proof.Machine
end

