-- ==== Sys2Proof/Laws/Window.lean ====
section
/-! SUPPORT. What the shared operations on windows, tables and lists can do, and the lengths of byte strings. -/

namespace Sys2Proof.Machine

/-! ## Windows (R3, R84) -/

/-- A sample that enters leaves a window that is not empty at its length. -/
theorem pushCell_length (w : List Cell) (c : Cell) (h : w ≠ []) : (pushCell w c).length = w.length := by
  have := List.length_pos_iff.mpr h
  simp [pushCell]
  omega

@[simp] theorem writeSpan_length (w : List Cell) (n lo hi : Nat) (y : Nat → Int) : (writeSpan w n lo hi y).length = w.length := by
  simp [writeSpan]

/-- A repair writes no stuck mark. -/
@[simp] theorem writeSpan_marks (w : List Cell) (n lo hi : Nat) (y : Nat → Int) :
    (writeSpan w n lo hi y).map (·.mark) = w.map (·.mark) := by
  apply List.ext_getElem
  · simp
  · intro i h1 h2
    simp only [writeSpan, List.getElem_map, List.getElem_mapIdx]
    split <;> rfl

/-- A repair changes positions of its span alone. -/
theorem writeSpan_outside (w : List Cell) (n lo hi p : Nat) (y : Nat → Int)
    (h : ¬ (p < n ∧ lo ≤ n - 1 - p ∧ n - 1 - p ≤ hi)) : (writeSpan w n lo hi y)[p]? = w[p]? := by
  simp only [writeSpan, List.getElem?_mapIdx, if_neg h, Option.map_id']

/-- Within its span a repair writes the replacement of each index. -/
theorem writeSpan_inside (w : List Cell) (n lo hi p : Nat) (y : Nat → Int)
    (h : p < n ∧ lo ≤ n - 1 - p ∧ n - 1 - p ≤ hi) :
    (writeSpan w n lo hi y)[p]? = w[p]?.map fun c => { c with sample := sampleOf (y (n - 1 - p - lo)) } := by
  simp only [writeSpan, List.getElem?_mapIdx, if_pos h]

/-- The value of a sample that lies in the sample range. -/
theorem sampleOf_toInt {x : Int} (h1 : -8388608 ≤ x) (h2 : x ≤ 8388607) : (sampleOf x).toInt = x := by
  rw [sampleOf, BitVec.toInt_ofInt]
  exact Int.bmod_eq_of_le (by simpa using h1) (by omega)

/-! ## Tables and lists (R63, R91, R101) -/

/-- Filing an entry adds it and keeps the others. -/
theorem fileDefect_perm (t : List Defect) (d : Defect) : (fileDefect t d).Perm (d :: t) := by
  unfold fileDefect
  exact (List.perm_middle).trans (by rw [List.takeWhile_append_dropWhile])

/-- Filing an entry keeps the table in the order of span start. -/
theorem fileDefect_sorted (t : List Defect) (d : Defect) (h : t.Pairwise fun x y => x.spanStart ≤ y.spanStart) :
    (fileDefect t d).Pairwise fun x y => x.spanStart ≤ y.spanStart := by
  induction t with
  | nil => simp [fileDefect]
  | cons x t ih =>
    rw [List.pairwise_cons] at h
    by_cases hx : x.spanStart ≤ d.spanStart
    · have hd : fileDefect (x :: t) d = x :: fileDefect t d := by simp [fileDefect, hx]
      rw [hd, List.pairwise_cons]
      refine ⟨fun y hy => ?_, ih h.2⟩
      rcases List.mem_cons.mp ((fileDefect_perm t d).mem_iff.mp hy) with rfl | hy
      · exact hx
      · exact h.1 y hy
    · have hd : fileDefect (x :: t) d = d :: x :: t := by simp [fileDefect, hx]
      rw [hd, List.pairwise_cons, List.pairwise_cons]
      refine ⟨fun y hy => ?_, h⟩
      rcases List.mem_cons.mp hy with rfl | hy
      · omega
      · have := h.1 y hy
        omega

theorem insertSplice_perm (t : List SpliceEntry) (x : SpliceEntry) : (insertSplice t x).Perm (x :: t) := by
  unfold insertSplice
  exact (List.perm_middle).trans (by rw [List.takeWhile_append_dropWhile])

theorem insertRange_perm (t : List FrameRange) (x : FrameRange) : (insertRange t x).Perm (x :: t) := by
  unfold insertRange
  exact (List.perm_middle).trans (by rw [List.takeWhile_append_dropWhile])

/-! ## Byte strings (R181) -/

@[simp] theorem le_length (n v : Nat) : (le n v).length = n := by
  induction n generalizing v with
  | zero => rfl
  | succ n ih => simp [le, ih]

@[simp] theorem leInt_length (n : Nat) (v : Int) : (leInt n v).length = n := by simp [leInt]

end Sys2Proof.Machine
end

