-- ==== Sys2Proof/Laws/Within.lean ====
section
/-! SUPPORT. What the operations of one reader can do outside it: one lemma for each operation. -/

namespace Sys2Proof.Machine

/-- From s to t, work within the reader r: the other reader keeps all but whether its watch is armed, the link, the pins
and the commands that wait stay, and the report queue keeps its enabled flag and its places. -/
structure Within (r : ReaderId) (s t : State) : Prop where
  other : (t.rd (otherReader r)).calm = (s.rd (otherReader r)).calm
  link : t.link = s.link
  cts : t.cts = s.cts
  ratePin : t.ratePin = s.ratePin
  pending : t.pending = s.pending
  enabled : t.queue.enabled = s.queue.enabled
  sound : s.queue.Sound → t.queue.Sound

theorem otherReader_ne (r : ReaderId) : otherReader r ≠ r := by cases r <;> decide

theorem Within.refl (r : ReaderId) (s : State) : Within r s s := ⟨rfl, rfl, rfl, rfl, rfl, rfl, id⟩

theorem Within.trans {r : ReaderId} {s t u : State} (a : Within r s t) (b : Within r t u) : Within r s u :=
  ⟨b.other.trans a.other, b.link.trans a.link, b.cts.trans a.cts, b.ratePin.trans a.ratePin, b.pending.trans a.pending,
    b.enabled.trans a.enabled, fun h => b.sound (a.sound h)⟩

theorem within_onReader (s : State) (r : ReaderId) (f : Reader → Reader) : Within r s (s.onReader r f) :=
  ⟨by rw [State.rd_onReader_of_ne _ _ _ _ (otherReader_ne r)], by simp, by simp, by simp, by simp, by simp, by simp⟩

theorem within_offer (s : State) (r : ReaderId) (b : ReportBody) (hb : b.isDfct = false) : Within r s (s.offer r b) :=
  ⟨by simp, rfl, rfl, rfl, rfl, (ReportQueue.offer_flags _ _).2.1, fun h => ReportQueue.sound_offer _ _ hb h⟩

/-! ## The watches -/

theorem fireWatch_within (s : State) (r k : ReaderId) (c : BitVec 16) : Within r s (s.fireWatch k c) := by
  refine ⟨?_, ?_, ?_, ?_, ?_, ?_, ?_⟩
  · cases r <;> cases k <;> simp [State.fireWatch, State.onReader, State.offer, State.onQueue, otherReader, Reader.calm]
  all_goals simp only [State.fireWatch, State.onReader_link, State.onReader_cts, State.onReader_ratePin,
    State.onReader_pending, State.onReader_queue, State.link_offer, State.cts_offer, State.ratePin_offer, State.pending_offer]
  · exact (ReportQueue.offer_flags _ _).2.1
  · exact fun h => ReportQueue.sound_offer _ _ rfl h

theorem evaluateWatch_within (s : State) (r k : ReaderId) : Within r s (s.evaluateWatch k) := by
  unfold State.evaluateWatch
  split
  · exact fireWatch_within s r k _
  · exact Within.refl r s

theorem Within.of_freeTick {r : ReaderId} {s t : State} {n : Nat} (h : Within r { s with freeTick := n } t) : Within r s t := by
  obtain ⟨h1, h2, h3, h4, h5, h6, h7⟩ := h
  exact ⟨h1.trans (by cases r <;> rfl), h2, h3, h4, h5, h6, h7⟩

theorem evaluateWatches_within (s : State) (r : ReaderId) : Within r s s.evaluateWatches := by
  unfold State.evaluateWatches
  dsimp only
  split
  · split
    · exact Within.of_freeTick ((fireWatch_within _ r .a _).trans (fireWatch_within _ r .b _))
    · exact Within.of_freeTick ((fireWatch_within _ r .b _).trans (fireWatch_within _ r .a _))
  · split
    · exact (fireWatch_within _ r .a _).trans (evaluateWatch_within _ r .b)
    · split
      · exact (fireWatch_within _ r .b _).trans (evaluateWatch_within _ r .a)
      · exact Within.refl r s

theorem evaluateChange_within (r : ReaderId) (old s : State) : Within r s (State.evaluateChange old s) := by
  unfold State.evaluateChange
  split
  · exact Within.refl r s
  · exact evaluateWatches_within s r

/-- An operation within a reader, then the watches. -/
theorem Within.watches {r : ReaderId} {s t : State} (h : Within r s t) : Within r s t.evaluateWatches :=
  h.trans (evaluateWatches_within t r)

/-- An operation within a reader, then a change of that reader. -/
theorem Within.reader {r : ReaderId} {s t : State} (h : Within r s t) (f : Reader → Reader) : Within r s (t.onReader r f) :=
  h.trans (within_onReader t r f)

/-! ## The hum canceller and the frame monitor -/

theorem offerHums_within (s : State) (r : ReaderId) (c : HumsCause) (i : Nat) (old : Reader) : Within r s (s.offerHums r c i old) := by
  unfold State.offerHums
  split
  · exact Within.refl r s
  · exact within_offer s r _ rfl

theorem recomputeIncrements_within (r : ReaderId) (i : Nat) (s : State) : Within r s (recomputeIncrements r i s) :=
  ((within_onReader s r _).trans (offerHums_within _ r _ _ _)).watches

theorem endPeriod_within (r : ReaderId) (i : Nat) (s : State) : Within r s (endPeriod r i s) :=
  ((within_onReader s r _).trans (offerHums_within _ r _ _ _)).watches

theorem humFrameEvent_within (r : ReaderId) (i : Nat) (s : State) : Within r s (humFrameEvent r i s) := by
  unfold humFrameEvent
  dsimp only
  split
  · split
    · exact (within_onReader s r _).trans (endPeriod_within r i _)
    · exact within_onReader s r _
  · exact Within.refl r s

theorem offerFrms_within (s : State) (r : ReaderId) (c : FrmsCause) (i : Nat) : Within r s (s.offerFrms r c i) :=
  within_offer s r _ rfl

theorem monitorPulse_within (r : ReaderId) (s : State) : Within r s (monitorPulse r s) := by
  have h : ∀ (o : Option FrmsCause) (i : Nat) (t : State), Within r t (match o with
      | some c => t.offerFrms r c i
      | none => t) := by
    intro o i t
    cases o
    · exact Within.refl r t
    · exact offerFrms_within t r _ i
  unfold monitorPulse
  dsimp only
  split
  · exact (((within_onReader s r _).trans (h _ _ _)).watches).trans (recomputeIncrements_within r _ _)
  · exact ((within_onReader s r _).trans (h _ _ _)).watches

theorem monitorTick_within (r : ReaderId) (s : State) : Within r s (monitorTick r s) := by
  unfold monitorTick
  dsimp only
  split
  · exact ((((within_onReader s r _).reader _).trans (offerFrms_within _ r _ _)).watches).trans
      (recomputeIncrements_within r _ _)
  · exact (within_onReader s r _).watches

theorem enterHoldover_within (r : ReaderId) (s : State) : Within r s (enterHoldover r s) :=
  (within_onReader s r _).trans (offerFrms_within _ r _ _)

/-! ## The commit -/

/-- The capture slot, offered an entry while a DFCT place is held, keeps the places: the records stay below 64 less the
place that is held, and no DFCT record joins. -/
theorem offerCapture_spec (r : ReaderId) (d : Defect) (n : Nat) (s : State) :
    let t := (offerCapture r d n s).1
    (t.rd (otherReader r)).calm = (s.rd (otherReader r)).calm ∧ t.link = s.link ∧ t.cts = s.cts ∧ t.ratePin = s.ratePin ∧
      t.pending = s.pending ∧ t.queue.enabled = s.queue.enabled ∧ t.queue.placeHeld = s.queue.placeHeld ∧
      t.queue.dfctCount = s.queue.dfctCount ∧
      (s.queue.placeHeld = true → s.queue.records.length < 64 → t.queue.records.length < 64) := by
  unfold offerCapture
  dsimp only
  split
  · exact ⟨rfl, rfl, rfl, rfl, rfl, rfl, rfl, rfl, fun _ h => h⟩
  · split
    · refine ⟨by rw [State.rd_onReader_of_ne _ _ _ _ (otherReader_ne r)], by simp, by simp, by simp, by simp, by simp, by simp,
        by simp, by simp⟩
    · exact ⟨rfl, rfl, rfl, rfl, rfl, rfl, rfl, rfl, fun _ h => h⟩
  · split
    · refine ⟨?_, by simp, by simp, by simp, by simp, ?_, ?_, ?_, ?_⟩
      · rw [State.rd_offer, State.rd_onReader_of_ne _ _ _ _ (otherReader_ne r)]
      · simpa [State.offer] using (ReportQueue.offer_flags s.queue _).2.1
      · simpa [State.offer] using (ReportQueue.offer_flags s.queue _).1
      · simp only [State.offer, State.onQueue_queue, State.onReader_queue, ReportQueue.offer]
        split
        · simp [ReportQueue.dfctCount, ReportBody.isDfct]
        · rfl
      · intro h h2
        simp only [State.offer, State.onQueue_queue, State.onReader_queue, ReportQueue.offer]
        split
        · rename_i h3
          simp [ReportQueue.occupied, h] at h3
          simp
          omega
        · exact h2
    · exact ⟨rfl, rfl, rfl, rfl, rfl, rfl, rfl, rfl, fun _ h => h⟩

theorem commitRecorded_within (r : ReaderId) (k : Nat) (d : Defect) (c : Bool) (s : State) (hg : s.queue.grants = true) :
    Within r s (commitRecorded r k d c s) := by
  unfold commitRecorded queueDfct
  dsimp only
  obtain ⟨h1, h2, h3, h4, h5, h6, h7, h8, h9⟩ :=
    offerCapture_spec r d (s.rd r).nextNumber (takeNumber r (s.onQueue ReportQueue.hold))
  apply Within.reader
  apply Within.reader
  refine ⟨?_, h2.trans ?_, h3.trans ?_, h4.trans ?_, h5.trans ?_, h6.trans ?_, fun hs => ?_⟩
  · rw [State.rd_onQueue, h1, takeNumber, State.rd_onReader_of_ne _ _ _ _ (otherReader_ne r), State.rd_onQueue]
  iterate 5 · simp [takeNumber, ReportQueue.hold]
  obtain ⟨hs1, hs2, hs3⟩ := hs
  simp only [ReportQueue.grants, ReportQueue.dfctOccupied, ReportQueue.occupied, hs3, Bool.toNat_false, Nat.add_zero,
    Bool.and_eq_true, decide_eq_true_eq] at hg
  apply ReportQueue.sound_fill
  · exact h9 (by simp [takeNumber, ReportQueue.hold]) (by simpa [takeNumber, ReportQueue.hold] using hg.2)
  · rw [h8]
    simpa [takeNumber, ReportQueue.hold, ReportQueue.dfctCount] using hg.1

theorem commitAt_within (r : ReaderId) (k : Nat) (c : Bool) (s : State) : Within r s (commitAt r k c s) := by
  unfold commitAt
  split
  · exact Within.refl r s
  · split
    · rename_i h
      exact commitRecorded_within r k _ c s h
    · exact within_onReader s r _

theorem commitWatched_within (r : ReaderId) (k : Nat) (c : Bool) (s : State) : Within r s (commitWatched r k c s) :=
  (commitAt_within r k c s).trans (evaluateChange_within r s _)

theorem reportMissed_within (r : ReaderId) (t : Nat) (s : State) : Within r s (reportMissed r t s) := by
  unfold reportMissed queueDfct
  dsimp only
  split
  · rename_i hg
    apply Within.reader
    apply Within.reader
    refine ⟨?_, ?_, ?_, ?_, ?_, ?_, fun hs => ?_⟩
    · rw [State.rd_onQueue, takeNumber, State.rd_onReader_of_ne _ _ _ _ (otherReader_ne r), State.rd_onQueue]
    all_goals try simp [takeNumber, ReportQueue.hold, ReportQueue.fill]
    obtain ⟨hs1, hs2, hs3⟩ := hs
    simp only [ReportQueue.grants, ReportQueue.dfctOccupied, ReportQueue.occupied, hs3, Bool.toNat_false, Nat.add_zero,
      Bool.and_eq_true, decide_eq_true_eq] at hg
    have := ReportQueue.sound_fill s.queue { reader := r, lost := false, body := (.dfct {
        lanes := .both, kind := .splice, method := .missed, number := (s.rd r).nextNumber, spanStart := index48 t,
        length := 0, peak := 0, frameCount := (s.rd r).monitor.frameCount, gapBefore := (s.rd r).gap, captured := false }) }
      hg.2 hg.1
    simpa [ReportQueue.fill, ReportQueue.Sound, ReportQueue.dfctCount, ReportBody.isDfct] using this
  · exact within_onReader s r _

/-- Work within a reader, folded over a list. -/
theorem foldl_within {α : Type} (r : ReaderId) (f : State → α → State) (hf : ∀ s x, Within r s (f s x)) (xs : List α) (s : State) :
    Within r s (xs.foldl f s) := by
  induction xs generalizing s with
  | nil => exact Within.refl r s
  | cons x xs ih => exact (hf s x).trans (ih _)

theorem commitAll_within (r : ReaderId) (ks : List Nat) (s : State) : Within r s (commitAll r ks s) :=
  foldl_within r _ (fun t k => commitWatched_within r k _ t) ks s

theorem cutEntries_within (r : ReaderId) (p q : Defect → Bool) (s : State) : Within r s (cutEntries r p q s) :=
  (within_onReader s r _).trans (commitAll_within r _ _)

theorem tableAtEntry_within (r : ReaderId) (s : State) : Within r s (tableAtEntry r s) :=
  (within_onReader s r _).trans (commitAll_within r _ _)

theorem closeRun_within (r : ReaderId) (l : Lane) (e : Nat) (s : State) : Within r s (closeRun r l e s) := by
  unfold closeRun
  dsimp only
  split
  · exact within_onReader s r _
  · split
    · exact (within_onReader s r _).reader _
    · split
      · exact ((within_onReader s r _).reader _).trans (commitWatched_within r _ _ _)
      · exact (within_onReader s r _).reader _

theorem closeOverlong_within (r : ReaderId) (l : Lane) (s : State) : Within r s (closeOverlong r l s) := by
  unfold closeOverlong
  dsimp only
  split
  · exact within_onReader s r _
  · exact ((within_onReader s r _).reader _).trans (commitWatched_within r _ _ _)

/-! ## The detectors -/

theorem onDetector_within (s : State) (r : ReaderId) (l : Lane) (f : Detector → Detector) : Within r s (s.onDetector r l f) :=
  within_onReader s r _

theorem openRun_within (r : ReaderId) (l : Lane) (e p : Nat) (o : Bool) (s : State) : Within r s (openRun r l e p o s) := by
  have h := ((cutEntries_within r (fun d => d.lanes.has l && ((s.rd r).opensOverlong l e p || !d.complete (s.rd r).entered))
    (fun d => d.dueAtEntry (s.rd r).entered || (o && d.cutByRun (twinOf l) (s.rd r).entered)) s).reader fun x =>
    { x with table := fileDefect x.table (x.openedEntry l e p) }).trans
    (onDetector_within _ r l fun d => { d with run := .run, quiet := 0, record := some { firstHot := e, lastHot := e } })
  unfold openRun
  dsimp only
  split
  · exact h.trans (closeOverlong_within r l _)
  · exact h

theorem extendRun_within (r : ReaderId) (l : Lane) (e p : Nat) (s : State) : Within r s (extendRun r l e p s) := by
  have h := (onDetector_within s r l fun d =>
    { d with quiet := 0, record := d.record.map fun x => { x with lastHot := e } }).reader fun x => x.growRun l e p
  unfold extendRun
  dsimp only
  split
  · exact h.trans (closeOverlong_within r l _)
  · exact h

theorem quietSample_within (r : ReaderId) (l : Lane) (s : State) : Within r s (quietSample r l s) := by
  unfold quietSample
  dsimp only
  split
  · exact (onDetector_within s r l _).trans (closeRun_within r l _ _)
  · split
    · exact (onDetector_within s r l _).trans (onDetector_within _ r l _)
    · exact onDetector_within s r l _

theorem actOnRun_within (r : ReaderId) (l : Lane) (e : Nat) (h c : Bool) (p : Nat) (o : Bool) (s : State) :
    Within r s (actOnRun r l e h c p o s) := by
  unfold actOnRun
  split
  · split
    · split
      · exact openRun_within r l e p o s
      · exact (within_onReader s r _).trans (onDetector_within _ r l _)
    · exact Within.refl r s
  · split
    · exact extendRun_within r l e p s
    · exact quietSample_within r l s
  · split
    · exact Within.refl r s
    · exact onDetector_within s r l _
  · split
    · exact onDetector_within s r l _
    · exact quietSample_within r l s

theorem judgeSample_within (r : ReaderId) (l : Lane) (e : Nat) (x : Sample) (y : Option Sample) (s : State) :
    Within r s (judgeSample r l e x y s) := by
  unfold judgeSample
  dsimp only
  split
  · exact (onDetector_within s r l _).trans (actOnRun_within r l e _ _ _ _ _)
  · exact actOnRun_within r l e _ _ _ _ s

theorem suspendedSample_within (r : ReaderId) (l : Lane) (s : State) : Within r s (suspendedSample r l s) := by
  unfold suspendedSample
  split
  · exact Within.refl r s
  · exact quietSample_within r l s
  · exact onDetector_within s r l _
  · exact quietSample_within r l s

theorem detectLane_within (r : ReaderId) (l : Lane) (e : Nat) (x : Sample) (y : Option Sample) (s : State) :
    Within r s (detectLane r l e x y s) := by
  unfold detectLane
  dsimp only
  split
  · exact ((onDetector_within s r l _).trans (onDetector_within _ r l _)).watches
  · split
    · exact ((suspendedSample_within r l s).trans (onDetector_within _ r l _)).watches
    · exact ((judgeSample_within r l e x y s).trans (onDetector_within _ r l _)).watches

theorem detectBoth_within (r : ReaderId) (f : Lane) (e : Nat) (x0 x1 : Sample) (s : State) :
    Within r s (detectBoth r f e x0 x1 s) := by
  cases f
  · exact (detectLane_within r .lane0 e x0 _ s).trans (detectLane_within r .lane1 e x1 _ _)
  · exact (detectLane_within r .lane1 e x1 _ s).trans (detectLane_within r .lane0 e x0 _ _)

theorem applyToRun_within (r : ReaderId) (s : State) (l : Lane) : Within r s (applyToRun r s l) := by
  unfold applyToRun
  split
  · dsimp only
    split
    · exact (within_onReader s r _).trans (closeOverlong_within r l _)
    · exact within_onReader s r _
  all_goals exact Within.refl r s

theorem applyToDetectors_within (r : ReaderId) (old : ParamSet) (s : State) : Within r s (applyToDetectors r old s) := by
  unfold applyToDetectors
  split
  · exact within_onReader s r _
  · exact foldl_within r _ (applyToRun_within r) _ s

/-! ## Splices -/

theorem closeBefore_within (r : ReaderId) (f : Nat) (s : State) (l : Lane) : Within r s (closeBefore r f s l) := by
  unfold closeBefore
  split
  · split
    · exact closeRun_within r l _ s
    · exact Within.refl r s
  · exact Within.refl r s

theorem fileSplice_within (r : ReaderId) (f l : Nat) (s : State) : Within r s (fileSplice r f l s) := by
  unfold fileSplice
  split
  · exact ((foldl_within r _ (closeBefore_within r f) _ s).trans (cutEntries_within r _ _ _)).reader _
  · exact within_onReader s r _

theorem openSplice_within (r : ReaderId) (t : Nat) (s : State) : Within r s (openSplice r t s) := by
  unfold openSplice
  dsimp only
  apply Within.watches
  split
  · split
    · exact (within_onReader s r _).trans (reportMissed_within r t _)
    · exact ((within_onReader s r _).reader _).trans (reportMissed_within r t _)
  · split
    · exact ((within_onReader s r _).reader _).trans (fileSplice_within r _ _ _)
    · exact (within_onReader s r _).trans (fileSplice_within r _ _ _)

theorem missPassed_within (r : ReaderId) (t n : Nat) (s : State) : Within r s (missPassed r t n s) := by
  induction n generalizing s with
  | zero => exact Within.refl r s
  | succ n ih =>
    unfold missPassed
    split
    · exact Within.refl r s
    · split
      · exact (((within_onReader s r _).trans (reportMissed_within r t _)).watches).trans (ih _)
      · exact Within.refl r s

theorem openDue_within (r : ReaderId) (t : Nat) (s : State) : Within r s (openDue r t s) := by
  unfold openDue
  split
  · exact Within.refl r _
  · split
    · exact (within_onReader _ r _).trans (openSplice_within r _ _)
    · exact Within.refl r _

theorem scheduleAtPulse_within (r : ReaderId) (s : State) : Within r s (scheduleAtPulse r s) :=
  (missPassed_within r _ _ s).trans (openDue_within r _ _)

theorem expireExclusions_within (r : ReaderId) (s : State) : Within r s (expireExclusions r s) := within_onReader s r _

/-! ## Frame events -/

theorem applySet_within (r : ReaderId) (c : ApldCause) (i : Nat) (s : State) : Within r s (applySet r c i s) :=
  (((((((within_onReader s r _).trans (within_offer _ r _ rfl)).watches.reader _).reader _).trans
    (offerHums_within _ r _ _ _)).watches.trans (applyToDetectors_within r _ _)).reader _).reader _ |>.watches

theorem applyAtFrame_within (r : ReaderId) (c : ApldCause) (i : Nat) (s : State) : Within r s (applyAtFrame r c i s) := by
  unfold applyAtFrame
  split
  · exact applySet_within r c i s
  · exact Within.refl r s

theorem frameEvent_within (r : ReaderId) (ev : FrameEvent) (i : Nat) (s : State) : Within r s (frameEvent r ev i s) := by
  have h := (applyAtFrame_within r ev.cause i s).trans (humFrameEvent_within r i _)
  cases ev
  · exact (h.trans (scheduleAtPulse_within r _)).trans (expireExclusions_within r _)
  · exact h.trans (scheduleAtPulse_within r _)
  · exact h

theorem startPoint_within (r : ReaderId) (s : State) : Within r s (startPoint r s) := by
  unfold startPoint
  dsimp only
  split
  · exact ((within_onReader s r _).trans (within_offer _ r _ rfl)).watches
  · exact (within_onReader s r _).watches

theorem armingPulse_within (r : ReaderId) (s : State) : Within r s (armingPulse r s) := by
  unfold armingPulse
  exact ((startPoint_within r s).reader _).trans (frameEvent_within r _ _ _)

theorem virtualTick_within (r : ReaderId) (s : State) : Within r s (virtualTick r s) :=
  (monitorTick_within r s).trans (frameEvent_within r _ _ _)

theorem holdoverEntry_within (r : ReaderId) (s : State) : Within r s (holdoverEntry r s) :=
  (enterHoldover_within r s).trans (virtualTick_within r _)

theorem monitorAtEntry_within (r : ReaderId) (s : State) : Within r s (monitorAtEntry r s) := by
  unfold monitorAtEntry
  split
  · exact holdoverEntry_within r s
  · split
    · exact virtualTick_within r s
    · exact Within.refl r s

theorem realPulse_within (r : ReaderId) (s : State) : Within r s (realPulse r s) := by
  unfold realPulse
  split
  · exact Within.refl r s
  · exact armingPulse_within r s
  · exact (monitorPulse_within r s).trans (frameEvent_within r _ _ _)
  · exact (monitorPulse_within r s).trans (frameEvent_within r _ _ _)

/-! ## The entry event and the clock -/

theorem offerLane_within (s : State) (r : ReaderId) (c : LaneCause) (a b : Bool) (i : Nat) : Within r s (s.offerLane r c a b i) := by
  unfold State.offerLane
  dsimp only
  split
  · exact within_offer s r _ rfl
  · exact Within.refl r s

theorem offerStuckChanges_within (s : State) (r : ReaderId) (old : Reader) (i : Nat) : Within r s (s.offerStuckChanges r old i) :=
  (offerLane_within s r _ _ _ i).trans (offerLane_within _ r _ _ _ i)

theorem enterStarted_within (r : ReaderId) (x0 x1 : Sample) (s : State) : Within r s (enterStarted r x0 x1 s) :=
  ((within_onReader s r _).trans (offerStuckChanges_within _ r _ _)).watches

/-- All that an entry event can do outside its reader. -/
theorem entryEvent_within (r : ReaderId) (x0 x1 : Sample) (f : Lane) (s : State) : Within r s (entryEvent r x0 x1 f s) := by
  unfold entryEvent
  split
  · exact Within.refl r s
  · split
    · exact within_onReader s r _
    · exact within_onReader s r _
    · exact ((((enterStarted_within r x0 x1 s).trans (detectBoth_within r f _ x0 x1 _)).trans
        (tableAtEntry_within r _)).reader _).trans (monitorAtEntry_within r _)
    · exact (((enterStarted_within r x0 x1 s).trans (tableAtEntry_within r _)).reader _).trans (monitorAtEntry_within r _)

theorem loseClock_within (r : ReaderId) (s : State) : Within r s (loseClock r s) := by
  unfold loseClock
  dsimp only
  split
  · exact Within.refl r s
  · exact ((within_onReader s r _).trans (offerLane_within _ r _ _ _ _)).watches

theorem regainClock_within (r : ReaderId) (s : State) : Within r s (regainClock r s) := by
  unfold regainClock
  dsimp only
  split
  · exact ((within_onReader s r _).trans (offerLane_within _ r _ _ _ _)).watches
  · exact Within.refl r s

theorem lanesBecomeStuck_within (r : ReaderId) (s : State) : Within r s (lanesBecomeStuck r s) :=
  ((within_onReader s r _).trans (offerStuckChanges_within _ r _ _)).watches

theorem runCloses_within (r : ReaderId) (l : Lane) (s : State) : Within r s (runCloses r l s) :=
  (closeRun_within r l _ s).watches

theorem commitDue_within (r : ReaderId) (p : Nat → Defect → Bool) (s : State) : Within r s (commitDue r p s) :=
  commitAll_within r _ s

theorem deadlinePasses_within (r : ReaderId) (s : State) : Within r s (deadlinePasses r s) :=
  (within_onReader s r _).trans (commitDue_within r _ _)

end Sys2Proof.Machine
end

