-- ==== Sys2Proof/Tests/Slice0.lean ====
section
/-! SUPPORT. Tests on fixed values: the worked examples of the spec, and for each statement with hypotheses a state and
operands that meet them. Every expected result is the spec's own or worked from its rules. -/

namespace Sys2Proof.Tests

open Sys2Proof Sys2Proof.Machine

set_option Elab.async false

/-! ## Helpers -/

/-- The state after a command. -/
def after (c : Instr) (s : State) : State :=
  match exec c s with
  | .next t => t
  | .fault _ => s
  | .refused _ => s

/-- The payload of the reply to a request. -/
def payload (c : Instr) (s : State) : List Byte :=
  match (after c s).link.reply with
  | some rep => rep.payload
  | none => []

/-- The state after bytes received one after another. -/
def afterBytes (bytes : List Byte) (s : State) : State :=
  match receiveAll bytes s with
  | .next t => t
  | .fault _ => s
  | .refused _ => s

/-- The part right after reset with reader A changed. -/
def sA (f : Reader → Reader) : State := State.reset.onReader .a f

/-- Reader A started, in a reader state, with a count of samples entered. -/
def started (state : ReaderState) (entered : Nat) (f : Reader → Reader := id) : State :=
  sA fun rd => f { rd with state := state, entered := entered }

/-- Reader A RUNNING with a monitor state. -/
def monitored (m : Monitor) (entered : Nat) : State := started .running entered fun rd => { rd with monitor := m }

/-- TRACKING with S, a VALID reference at index 1000 and a rejected run. -/
def tracking (s : Nat) (rejected : List Nat) : Monitor :=
  { state := .tracking, smoothed := s, frameCount := 10, reference := .valid 1000, rejected := rejected, lastEvent := 1000,
    holdoverTicks := 0, glitches := 7 }

/-- A CLICK entry of lane 0. -/
def click (first last : Nat) (state : EntryState) : Defect :=
  { lanes := .only .lane0, kind := .click, spanStart := first, spanEnd := last, peak := 0, state := state, cut := false,
    method := none, number := none, captured := false }

/-- A queue of some DFCT records and some others. -/
def queueOf (dfct others : Nat) : ReportQueue :=
  { records :=
      List.replicate dfct { reader := .a, lost := false, body := .dfct {
        lanes := .both, kind := .click, method := .fill, number := 1, spanStart := 0, length := 1, peak := 0, frameCount := 0,
        gapBefore := false, captured := false } } ++
      List.replicate others { reader := .a, lost := false, body := .apld .pulse false .slot0 0 0 }
    placeHeld := false, lost := false, enabled := false }

/-- The window whose oldest positions carry the samples of a list, the oldest sample last. -/
def windowOf (xs : List Int) : List Cell := xs.map fun x => { sample := sampleOf x, mark := false }

/-- Reader A RUNNING with a table and lane 0 in a run state, after samples that differ by nothing. -/
def hunting (phase : RunState) (table : List Defect) : State :=
  started .running 2004 fun rd =>
    { rd with
      table := table
      lane0 := { rd.lane0 with detector :=
        { rd.lane0.detector with
          history := 2, run := phase, quiet := 8, record := if phase = .run then some { firstHot := 2000, lastHot := 2003 } else none } } }

/-! ## WellFormed -/

/-- A SETW of 205 writes does not fit a frame: 2 + 5 · 205 = 1027 bytes (R174, R179). -/
theorem test_wf_refuses_long_setw : (Instr.setw 0 0 (List.replicate 205 { id := 2, value := 0 })).wf = false := by decide +kernel

theorem test_wf_takes_longest_setw : (Instr.setw 0 0 (List.replicate 204 { id := 2, value := 0 })).wf = true := by decide +kernel

/-! ## Worked examples: frame timing -/

/-- 2.5: S 8000 with P 504 becomes 8008, and then with P 450 becomes 7907. -/
theorem test_interval_accepted :
    ((monitored (tracking 8000 []) 1504).rd .a).monitor.smoothed = 8000 ∧
    ((after (.realPulse .a) (monitored (tracking 8000 []) 1504)).rd .a).monitor.smoothed = 8008 ∧
    ((after (.realPulse .a) (monitored (tracking 8008 []) 1450)).rd .a).monitor.smoothed = 7907 := by decide +kernel

/-- 2.5: the three rejected intervals 400, 401, 399 reseed S to 6384, and 400 is then accepted. -/
theorem test_reseed :
    let m := fun s rej p => ((after (.realPulse .a) (monitored (tracking s rej) (1000 + p))).rd .a).monitor
    ((m 8000 [] 400).rejected, (m 8000 [] 400).glitches) = ([400], 8) ∧
    (m 8000 [400] 401).rejected = [400, 401] ∧
    ((m 8000 [400, 401] 399).rejected, (m 8000 [400, 401] 399).smoothed) = ([], 6384) ∧
    (m 6384 [] 400).smoothed = 6386 := by decide +kernel

/-- 2.6: HOLDOVER is entered at 100 000 + floor(16 016 / 16) = 101 001, with its first tick; not one sample earlier. -/
theorem test_holdover_entry :
    let m := { tracking 8008 [] with reference := .valid 100000, lastEvent := 100000 }
    let t := (after (.holdoverEntry .a) (monitored m 101001)).rd .a
    (t.monitor.state, t.monitor.lastEvent, t.monitor.holdoverTicks, t.monitor.smoothed) = (.holdover, 101001, 1, 8008) ∧
    ((monitored m 101000).rd .a).holdoverDue = false := by decide +kernel

/-- 2.6: the 48th tick, at 124 501, brings FREE with S at 32 000. -/
theorem test_free_entry :
    let m := { tracking 8008 [] with state := .holdover, lastEvent := 124001, holdoverTicks := 47 }
    let t := (after (.freeEntry .a) (monitored m 124501)).rd .a
    (t.monitor.state, t.monitor.smoothed, t.monitor.holdoverTicks) = (.free, 32000, 0) := by decide +kernel

/-- 2.6: the second tick, 500 samples after the first. -/
theorem test_virtual_tick :
    let m := { tracking 8008 [] with state := .holdover, lastEvent := 101001, holdoverTicks := 1 }
    let t := (after (.virtualTick .a) (monitored m 101501)).rd .a
    (t.monitor.lastEvent, t.monitor.holdoverTicks, t.monitor.frameCount) = (101501, 2, 10) ∧
    ((monitored m 101500).rd .a).tickDue = false := by decide +kernel

/-- 2.6: in FREE, P = 30 000 is discarded, and then P = 500 enters TRACKING with S = 8000. -/
theorem test_recovery :
    let m := fun t => { tracking 32000 [] with state := .free, reference := .valid t, lastEvent := t }
    ((after (.realPulse .a) (monitored (m 100000) 130000)).rd .a).monitor.state = .free ∧
    ((after (.realPulse .a) (monitored (m 130000) 130500)).rd .a).monitor.smoothed = 8000 := by decide +kernel

/-! ## Worked examples: click detection, defects and repair -/

/-- 3.2: with E = 200 and T = 128, |d| = 1700 is hot with ratio 136, and 1600 is not hot. -/
theorem test_threshold : isHot 128 200 1700 = true ∧ peakRatio 200 1700 = 136 ∧ isHot 128 200 1600 = false := by decide

/-- R43: E = 200 with |d| = 40 becomes 197, E = 20 with 0 becomes 19, and E rests at 16. -/
theorem test_envelope : envelopeAfter 6 200 40 = 197 ∧ envelopeAfter 6 20 0 = 19 ∧ envelopeAfter 6 16 0 = 16 := by decide

/-- 3.5: the run with hot samples 5000 to 5003 closes at the entry of 5012 with the span 4996 to 5007. -/
theorem test_run_close :
    let s := started .running 5013 fun rd =>
      { (rd.onLane .lane0 fun ln => { ln with detector :=
          { ln.detector with run := .run, quiet := 9, record := some { firstHot := 5000, lastHot := 5003 } } }) with
        table := [{ click 4996 5007 .opened with peak := 210 }] }
    let t := (after (.runClose .a .lane0) s).rd .a
    t.table = [{ click 4996 5007 .closed with peak := 210 }] ∧ t.lane0.detector.run = .idle := by decide +kernel

/-- 3.8: two lanes, one defect: lane 0's close at 5012 merges lane 1's CLOSED entry. -/
theorem test_merge :
    let s := started .running 5013 fun rd =>
      { (rd.onLane .lane0 fun ln => { ln with detector :=
          { ln.detector with run := .run, quiet := 9, record := some { firstHot := 5000, lastHot := 5003 } } }) with
        table := [{ click 4996 5007 .opened with peak := 210 },
          { click 4997 5005 .closed with peak := 160, lanes := .only .lane1 }] }
    ((after (.runClose .a .lane0) s).rd .a).table = [{ click 4996 5007 .closed with peak := 210, lanes := .both }] := by
  decide +kernel

/-- 3.7: nine quiet samples end a saturation under G = 8. -/
theorem test_saturation_end :
    let s := fun q => started .running 100 fun rd => rd.onLane .lane0 fun ln =>
      { ln with detector := { ln.detector with run := .saturated, quiet := q } }
    (((after (.saturationEnd .a .lane0) (s 9)).rd .a).lane0.detector.run = .idle) ∧
    ((after (.saturationEnd .a .lane0) (s 8)).rd .a).lane0.detector.run = .saturated := by decide +kernel

/-- 4.6: FILL gives 86, 70, 35 and LINEAR 115, 90, 65. -/
theorem test_repair_arithmetic :
    [fillValue 101 40 3 0, fillValue 120 20 3 1, fillValue 140 0 3 2] = [86, 70, 35] ∧
    [linearValue 140 40 3 0, linearValue 140 40 3 1, linearValue 140 40 3 2] = [115, 90, 65] := by decide

/-- 4.6: the same span commits by FILL at the entry that completes its post-context, through the windows. -/
theorem test_post_context_commit :
    let s := started .running 9 fun rd =>
      { rd with
        params := { rd.params with slot0 := { rd.params.slot0 with set := { rd.params.slot0.set with linearLimit := 2 } } }
        lane0 := { rd.lane0 with window := windowOf [0, 20, 40, 9, 8, 7, 140, 120, 101] }, table := [click 3 5 .closed] }
    let t := (after (.postContextComplete .a) s).rd .a
    t.lane0.window = windowOf [0, 20, 40, 35, 70, 86, 140, 120, 101] ∧
      t.table = [{ click 3 5 .committed with method := some .fill, number := some 1 }] := by decide +kernel

/-- 4.6: cut, the span commits by LINEAR as index b enters. -/
theorem test_cut_commit :
    let s := started .running 7 fun rd =>
      { rd with
        lane0 := { rd.lane0 with window := windowOf [40, 9, 8, 7, 140, 120, 101] }
        table := [{ click 3 5 .closed with cut := true }] }
    ((after (.cutCommitAtB .a) s).rd .a).lane0.window = windowOf [40, 65, 90, 115, 140, 120, 101] := by decide +kernel

/-- R71: at the deadline an OPEN entry ends before the sample that has just entered, and commits. -/
theorem test_window_deadline :
    let t := (after (.windowDeadline .a) (started .running 1100 fun rd => { rd with table := [click 76 2000 .opened] })).rd .a
    t.table.map (fun d => (d.state, d.spanEnd)) = [(.committed, 1098)] := by decide +kernel

/-- 4.4: with 56 DFCT records and 3 others in the queue, the commit is UNRECORDED and the number counter stays. -/
theorem test_log_gate :
    let s := { started .running 9 (fun rd => { rd with table := [click 3 5 .closed], nextNumber := 208 }) with queue := queueOf 56 3 }
    let t := (after (.postContextComplete .a) s).rd .a
    (t.unrecorded, t.gap, t.nextNumber, t.table.map (·.method)) = (1, true, 208, [some .unrecorded]) := by decide +kernel

/-- 9.1: with 62 records, 55 of them DFCT, the CAPD and then the DFCT record join, up to 64 and 56. -/
theorem test_queue_limits :
    let s := { started .running 9 (fun rd =>
      { rd with table := [click 3 5 .closed], capture := { rd.capture with state := .armed } }) with queue := queueOf 55 7 }
    let q := (after (.postContextComplete .a) s).queue
    (q.records.length, q.dfctCount, q.lost) = (64, 56, false) ∧
      (q.records.drop 62).map (·.body.isDfct) = [false, true] := by decide +kernel

/-- 9.3: the three copy ranges keep 56, 49 and 189 samples. -/
theorem test_capture_ranges :
    (captureFirst 5024 (click 5000 5011 .closed), captureCount 5024 (click 5000 5011 .closed)) = (4968, 56) ∧
    (captureFirst 5013 (click 4996 5007 .closed), captureCount 5013 (click 4996 5007 .closed)) = (4964, 49) ∧
    (captureFirst 60221 (click 59971 60095 .closed), captureCount 60221 (click 59971 60095 .closed)) = (59939, 189) := by decide

/-- R73: a run opening on lane 0 cuts the second entry at once; the first, on lane 1 alone, completes its post-context at the
same entry event and stands before it, so it commits first. -/
theorem test_commits_in_table_order :
    let s := hunting .idle [{ click 1989 1996 .closed with lanes := .only .lane1 }, click 1991 1999 .closed]
    (((after (.entryEvent .a 1024 0 .lane0) s).rd .a).table.map fun d => (d.spanStart, d.number)) =
      [(1989, some 1), (1991, some 2), (2000, none)] := by decide +kernel

/-- R69, R83: a run that is overlong as it opens is numbered behind the lane's entry whose post-context that entry event
completes. -/
theorem test_overlong_opening_follows_complete_entry :
    let s := (hunting .idle [click 1989 1996 .closed]).onReader .a fun rd =>
      { rd with params := { rd.params with slot0 := { rd.params.slot0 with set := { rd.active with lmax := 8, guard := 6 } } } }
    let t := (after (.entryEvent .a 1024 0 .lane0) s).rd .a
    (t.table.map fun d => (d.spanStart, d.spanEnd, d.method, d.number)) =
      [(1989, 1996, some .linear, some 1), (1998, 2006, some .passed, some 2)] := by decide +kernel

/-- 4.5: the X entry is removed at the entry of 3006 + 1024 = 4030. -/
theorem test_entry_removal :
    let t := fun n => ((after (.entryRemoval .a) (started .running n fun rd =>
      { rd with table := [click 2996 3006 .committed] })).rd .a).table.length
    (t 4030, t 4031) = (1, 0) := by decide +kernel

/-! ## Worked examples: splices and the exclusion list -/

/-- 5.3: the splice at t = 60 000 absorbs Q and is clipped by P to 59 971 to 60 095. -/
theorem test_splice_opens :
    let s := started .running 60000 fun rd =>
      { (rd.onLane .lane1 fun ln => { ln with detector :=
          { ln.detector with run := .run, quiet := 0, record := some { firstHot := 59980, lastHot := 59983 } } }) with
        monitor := { rd.monitor with frameCount := 1199 }, schedule := [{ picture := 1200, due := 1200 }]
        table := [click 59960 59970 .committed, { click 59976 59987 .opened with lanes := .only .lane1 }] }
    let t := (after (.realPulse .a) s).rd .a
    t.table.map (fun d => (d.kind, d.state, d.spanStart, d.spanEnd)) =
      [(.click, .committed, 59960, 59970), (.splice, .opened, 59971, 60095)] ∧
      t.lane1.detector.run = .idle ∧ t.schedule = [] := by decide +kernel

/-- 5.2: the due frame lost to a clock failure is reported MISSED with number 77 and length 0. -/
theorem test_splice_missed :
    let s := started .running 2400000 fun rd =>
      { rd with monitor := { rd.monitor with frameCount := 510 }, nextNumber := 77
                schedule := [{ picture := 510, due := 510 }, { picture := 530, due := 530 }] }
    let t := after (.realPulse .a) s
    (t.rd .a).schedule = [{ picture := 530, due := 530 }] ∧ (t.rd .a).nextNumber = 78 ∧
      t.queue.bodies = [(.a, .dfct {
        lanes := .both, kind := .splice, method := .missed, number := 77, spanStart := 2400000, length := 0, peak := 0
        frameCount := 511, gapBefore := false, captured := false })] := by decide +kernel

/-- R186: of two commits that a splice's opening brings, the first captures: its ALRT stands between them. -/
theorem test_splice_alert_order :
    let s := started .running 60000 fun rd =>
      { rd with
        schedule := [{ picture := 1, due := 1 }], table := [click 59900 59910 .closed, click 59920 59930 .closed]
        capture := { rd.capture with state := .armed }, watch := { armed := true, mask := 0x80, mode := .any } }
    (after (.realPulse .a) s).queue.bodies.map (·.2.type) = [0x45, 0x40, 0x46, 0x40] := by decide +kernel

/-- R100: the splice closes as the sample of its span end enters. -/
theorem test_splice_close :
    let t := fun n => ((after (.spliceClose .a) (started .running n fun rd =>
      { rd with table := [{ click 59971 60095 .opened with kind := .splice, lanes := .both }] })).rd .a).table.map (·.state)
    (t 60095, t 60096) = ([.opened], [.closed]) := by decide +kernel

/-- 5.5: EXCA 830 to 860 overlaps, 845 to 880 is taken, 790 to 799 is late, 870 to 860 is refused with VALUE. -/
theorem test_exca :
    let s := started .running 0 fun rd =>
      { rd with monitor := { rd.monitor with frameCount := 800 }
                exclusions := [{ first := 820, last := 840 }, { first := 900, last := 950 }] }
    payload (.exca 0 0 830 860) s = [0x16, 2] ∧ payload (.exca 0 0 845 880) s = [0x00, 3] ∧
    payload (.exca 0 0 790 799) s = [0x15, 2] ∧ payload (.exca 0 0 870 860) s = [0x1A, 2] ∧
    payload (.exca 0 0 820 840) State.reset = [0x13, 0] := by decide +kernel

/-- R102: a ninth range finds the list full. -/
theorem test_exca_full :
    payload (.exca 0 0 900 901) (started .running 0 fun rd =>
      { rd with exclusions := (List.range 8).map fun i => { first := 10 * i, last := 10 * i + 9 } }) = [0x14, 8] := by decide +kernel

/-- 5.5: at the pulse to 841 the range 820 to 840 is removed; EXCR removes 900; EXCL lists what is left. -/
theorem test_excr_excl :
    let s := started .running 0 fun rd =>
      { rd with monitor := { rd.monitor with frameCount := 840 }
                exclusions := [{ first := 820, last := 840 }, { first := 900, last := 950 }] }
    ((after (.realPulse .a) s).rd .a).exclusions = [{ first := 900, last := 950 }] ∧
    payload (.excr 0 0 900) s = [0x00, 1] ∧ payload (.excr 0 0 901) s = [0x18, 2] ∧
    payload (.excl 0 0) (after (.realPulse .a) s) = [0x00, 0x49, 3, 0, 0, 1, 0x84, 3, 0, 0, 0xB6, 3, 0, 0] := by decide +kernel

/-- 5.3, R92: SPLM of 1200 at frame count 1195, and its refusals. -/
theorem test_splm :
    let s := started .running 0 fun rd => { rd with monitor := { rd.monitor with frameCount := 1195 } }
    payload (.splm 0 0 1200) s = [0x00, 0xB0, 4, 0, 0, 1] ∧ payload (.splm 0 0 1195) s = [0x15, 0xAB, 4, 0, 0, 0] ∧
    payload (.splm 0 0 1200) State.reset = [0x13, 0, 0, 0, 0, 0] ∧
    payload (.splm 0 0 1200) (s.onReader .a fun rd => { rd with schedule := [{ picture := 9, due := 1200 }] }) =
      [0x03, 0xB0, 4, 0, 0, 1] := by decide +kernel

/-- R92: a due frame outside 0 to 2^32 - 1, and a full schedule. -/
theorem test_splm_limits :
    let s := started .running 0 fun rd =>
      { rd with params := { rd.params with slot0 := { rd.params.slot0 with set := { rd.params.slot0.set with spliceOffset := 1 } } }
                schedule := (List.range 16).map fun i => { picture := 100 + i, due := 100 + i } }
    payload (.splm 0 0 0xFFFFFFFF) s = [0x1A, 0, 0, 0, 0, 16] ∧ payload (.splm 0 0 19) s = [0x14, 20, 0, 0, 0, 16] := by
  decide +kernel

/-- R94, R95: SPLC cancels by due frame, and SPLL lists. -/
theorem test_splc_spll :
    let s := sA fun rd => { rd with schedule := [{ picture := 1, due := 2 }] }
    payload (.splc 0 0 2) s = [0x00, 0] ∧ payload (.splc 0 0 1) s = [0x18, 1] ∧
    payload (.spll 0 0) s = [0x00, 0, 0, 0, 0, 1, 1, 0, 0, 0, 2, 0, 0, 0] := by decide +kernel

/-! ## Worked examples: hum and hiss -/

/-- 6.2: the increments at S = 8000 and at S = 8008. -/
theorem test_increments :
    let c := fun src n => ({ enabled := true, source := src, order := n, fixedInc := 1, shift := 14 } : HumConfig)
    slotIncrement (c .frame 1) 50 2400 8000 = 8589935#32 ∧ slotIncrement (c .frame 4) 50 2400 8000 = 34359738#32 ∧
    slotIncrement (c .mains 1) 50 2400 8000 = 17895697#32 ∧ slotIncrement (c .frame 4) 50 2400 8008 = 34325413#32 ∧
    slotIncrement (c .mains 64) 60 2400 4000 = 2748779069#32 := by decide +kernel

/-- 6.4: one sample through one slot: h = 1414, and the weights after both residuals. -/
theorem test_hum_sample :
    let x : HumLaneSlot := { HumLaneSlot.reset with wc := 4000, ws := -2000, status := .seeking }
    let theta := 512#32 <<< 20
    x.estimate theta = 1414 ∧ ((x.update theta 14 86).wc, (x.update theta 14 86).ws) = (4121, -1879) ∧
    ((x.update theta 14 (-114)).wc, (x.update theta 14 (-114)).ws) = (3838, -2162) := by decide +kernel

/-- R112: the listed entries of the sine table. -/
theorem test_sine : [0, 256, 512, 1024, 1536, 2048, 3072].map sineEntry = [0, 12539, 23170, 32767, 23170, 0, -32767] := by
  decide +kernel

/-- 6.5: the judgements of frame events 2 and 3 of the slot that locks. -/
theorem test_lock_judgement :
    let x : HumLaneSlot := { HumLaneSlot.reset with status := .seeking }
    (HumLaneSlot.judge { x with wc := 380, ws := -250, aPrev := 400 }).fresh = false ∧
    HumLaneSlot.judge { x with wc := 400, ws := -260, aPrev := 505 } = { x with wc := 400, ws := -260, aPrev := 530, fresh := true } := by
  decide +kernel

/-- 6.5: a period end locks a FRESH slot, and parks a slot at its fourth fault. -/
theorem test_period_end :
    let lane := fun (x : HumLaneSlot) (ln : LaneState) => { ln with hum := ln.hum.set 3 x }
    let s := fun x => started .running 0 fun rd =>
      { rd with hum := { rd.hum with periodCounter := 16 }, lane0 := lane x rd.lane0 }
    let x : HumLaneSlot := { HumLaneSlot.reset with status := .seeking }
    let t := fun x => ((after (.periodEnd .a) (s x)).rd .a).lane0.hum[3]
    (t { x with fresh := true }).status = .locked ∧
    (t { x with fault := true, faultRun := 3 }).status = .parked ∧
    (t { x with fault := true, faultRun := 0, status := .locked }).status = .seeking := by decide +kernel

/-- 7.3: the residuals 100, 130, 90, 95 take the block from 1450 and 12 to 1545 and 16. -/
theorem test_hiss_block :
    let h : Hiss := { step := 10, y := 0, prev := 80, blockSum := 1450, blockCount := 12 }
    let t := (((h.take 100).take 130).take 90).take 95
    (t.blockSum, t.blockCount, t.prev) = (1545, 16, 95) := by decide +kernel

/-- 7.4: the step over six blocks. -/
theorem test_hiss_steps :
    let f := fun step sum => stepAfter ParamSet.default step (sum / 64)
    [f 10 5000, f 9 6100, f 8 6200, f 12 4000, f 11 20000, f 15 60000] = [9, 8, 12, 11, 15, 19] := by decide +kernel

/-- 7.5: the filter updates. -/
theorem test_hiss_filter : hissFilter 15 1000 2001 = 1500#24 ∧ hissFilter 0 1000 0 = 968#24 ∧ hissFilter 31 968 5000 = 5000#24 := by
  decide

/-! ## Worked examples: parameter sets -/

/-- 8.4: T = 2000, g = -3 and M = 55 are refused with 17; the first two alone are taken, CLAMPED with 2 and 5. -/
theorem test_setw :
    let t : FieldWrite := { id := 2, value := 2000 }
    let g : FieldWrite := { id := 5, value := -3 }
    let m : FieldWrite := { id := 17, value := 55 }
    payload (.setw 0 0 [t, g, m]) State.reset = [0x1A, 17] ∧
    payload (.setw 0 0 [t, g]) State.reset = [0x01, 2, 2, 5] ∧
    (let p := ((after (.setw 0 0 [t, g]) State.reset).rd .a).params.slot1.set;
      (p.threshold, p.guard) = (1023, 0)) := by decide +kernel

/-- 8.8: with Pmin 2500 and Pmax 4000 the second test fails with field 14. -/
theorem test_setc_inconsistent :
    payload (.setc 0 0) (sA fun rd => { rd with params := { rd.params with slot1 :=
      { rd.params.slot1 with set := { rd.params.slot1.set with pmin := 2500, pmax := 4000 } } } }) = [0x17, 14] := by decide +kernel

/-- 8.8: SETC answers staged 1 and edit 2, and over a STAGED set SUPERSEDED with staged 2 and edit 1. -/
theorem test_setc :
    let t := after (.setc 0 0) State.reset
    payload (.setc 0 0) State.reset = [0x00, 1, 2] ∧
    payload (.setc 0 0) { t with link := Link.reset } = [0x02, 2, 1] := by decide +kernel

/-- R142: SETR of EDIT carries slot 1 and 83 fields of 4 bytes, of STAGED NOT-FOUND, of 4 VALUE. -/
theorem test_setr :
    (payload (.setr 0 0 1) State.reset).length = 2 + 4 * 83 ∧ (payload (.setr 0 0 1) State.reset).take 6 = [0x00, 1, 1, 0, 0, 0] ∧
    payload (.setr 0 0 2) State.reset = [0x18] ∧ payload (.setr 0 0 4) State.reset = [0x1A] := by decide +kernel

/-- 8.8: HOLD and SYNC with mask A; a mask of 0 is refused. -/
theorem test_hold_sync_rels :
    payload (.hold 0 1) State.reset = [0x00, 0x00, 0x03] ∧ payload (.rels 0 3) State.reset = [0x03, 0x03, 0x03] ∧
    payload (.sync 0 1) State.reset = [0x03, 0x03, 0x03] ∧ payload (.hold 0 0) State.reset = [0x1A] ∧
    payload (.sync 0 1) { after (.setc 0 0) State.reset with link := Link.reset } = [0x00, 0x00, 0x03] := by decide +kernel

/-- 8.8: held, the pulse to 2001 applies nothing; synced, the pulse to 2002 applies the set, released by sync. -/
theorem test_apply :
    let s := fun sync => started .running 0 fun rd =>
      { rd with monitor := { rd.monitor with frameCount := 2001 }
                params := { rd.params with slot1 := { rd.params.slot1 with role := .edit }
                                           slot2 := { rd.params.slot2 with role := .staged }
                                           hold := true, syncPending := sync } }
    let t := after (.realPulse .a) (s true)
    ((after (.realPulse .a) (s false)).rd .a).params.slot2.role = .staged ∧
    ((t.rd .a).params.slot0.role, (t.rd .a).params.slot1.role, (t.rd .a).params.slot2.role) = (.spare, .edit, .active) ∧
    ((t.rd .a).params.hold, (t.rd .a).params.syncPending) = (true, false) ∧
    (.a, ReportBody.apld .pulse true .slot2 2002 0) ∈ t.queue.bodies := by decide +kernel

/-! ## Worked examples: the control link, capture and watches -/

/-- 10.2: the frame of IDNT with tag 0x5A, checksum 0xA3. -/
theorem test_checksum : frameBytes 0x01 0x5A [] = [0xC3, 0x02, 0x00, 0x01, 0x5A, 0xA3] := by decide +kernel

/-- 10.2, R184: that frame, received, is answered with IDNT's 16 bytes. -/
theorem test_receive_idnt :
    (afterBytes [0xC3, 0x02, 0x00, 0x01, 0x5A, 0xA3] State.reset).link.transmitter = .reply (frameBytes 0x81 0x5A
      [0x00, 0x40, 0x03, 1, 0, 0x00, 0x04, 32, 16, 8, 64, 56, 0x40, 0x01, 12, 83]) := by decide +kernel

/-- 10.3: a length of 2048 is discarded with a link fault, and its bytes, examined again, are dropped. -/
theorem test_corrupted_length :
    let t := afterBytes [0xC3, 0x00, 0x08] State.reset
    t.link.linkFault = true ∧ t.link.receiver.state = .hunt := by decide +kernel

/-- R177: a gap in mid-frame discards the frame. -/
theorem test_inter_byte_timeout :
    let s := after (.receiveByte 0xC3 false) State.reset
    s.link.receiver.state = .length ∧ (after .interByteTimeout s).link.receiver.state = .hunt ∧
    (after .interByteTimeout s).link.linkFault = true := by decide +kernel

/-- Section 10.6: a STAT reply has 49 bytes and a HUMR reply 395. -/
theorem test_stat_humr_lengths :
    (payload (.stat 0 0) State.reset).length = 49 ∧ (payload (.humr 0 0) State.reset).length = 395 := by decide +kernel

/-- R172: STAT clears the unrecorded counter that it returns. -/
theorem test_stat_clears :
    let s := sA fun rd => { rd with unrecorded := 2, gap := true }
    ((after (.stat 0 0) s).rd .a).unrecorded = 0 ∧ ((after (.stat 0 0) s).rd .a).gap = true ∧
    ((payload (.stat 0 0) s).drop 25).take 3 = [2, 0, 1] := by decide +kernel

/-- R184: IDNT at both rates. -/
theorem test_idnt : (payload (.idnt 7) State.reset).length = 16 ∧
    (payload (.idnt 7) (after (.powerOn true) State.reset))[4]? = some 1 := by decide +kernel

/-- R162: REPT, and the counts it carries. -/
theorem test_rept :
    let s := { State.reset with queue := queueOf 3 2 }
    payload (.reptOn 0) s = [0x00, 5, 3] ∧ payload (.reptOff 0) s = [0x03, 5, 3] ∧
    (after (.reptOn 0) s).queue.enabled = true := by decide +kernel

/-- R185: RSET resets at the end of its reply, and the row RESET the same. -/
theorem test_rset :
    let s := after (.rset 9) (sA fun rd => { rd with state := .running })
    (s.rd .a).state = .running ∧ ((after .messageSent s).rd .a).state = .stopped ∧
    (after (.reset true) s).link.rate = true := by decide +kernel

/-- R164, R167, R168: the refusals of CAPA, CAPR and CAPX. -/
theorem test_capture_requests :
    let held := sA fun rd => { rd with capture := { rd.capture with
      state := .held, missed := true, descriptor := { rd.capture.descriptor with lanes := 1, count := 320 } } }
    payload (.capa 0 0 1 0 1) held = [0x13] ∧ payload (.capa 0 0 4 0 1) State.reset = [0x1A] ∧
    payload (.capa 0 0 3 5 2) State.reset = [0x00] ∧ payload (.capr 0 0 0 0 1) State.reset = [0x19] ∧
    payload (.capr 0 0 0 1 320) held = [0x1A] ∧ payload (.capr 0 0 1 0 320) held = [0x18] ∧
    (payload (.capr 0 0 0 0 320) held).length = 1 + 14 + 5 + 960 ∧
    payload (.capx 0 0) held = [0x00, 1] ∧ payload (.capx 0 0) State.reset = [0x19] := by decide +kernel

/-- 9.4: armed with FREE and UNRECORDED in mode ANY, and satisfied at once where FREE and UNRECORDED hold. -/
theorem test_watch :
    let s := started .running 0 fun rd => { rd with monitor := { rd.monitor with state := .free }, unrecorded := 1 }
    payload (.wtch 0 0 0x202 0) State.reset = [0x00, 0, 0] ∧ payload (.wtch 0 0 0x202 0) s = [0x00, 0x02, 0x02] ∧
    ((after (.wtch 0 0 0x202 0) State.reset).rd .a).watch.armed = true ∧
    ((after (.wtch 0 0 0x202 0) s).rd .a).watch.armed = false ∧
    (after (.wtch 0 0 0x202 0) s).queue.bodies = [(.a, .alrt 0x202 0x202 .any 0 0)] := by decide +kernel

/-- R170, R171: the refusals of WTCH, and WTCD. -/
theorem test_watch_requests :
    payload (.wtch 0 0 0 0) State.reset = [0x1A] ∧ payload (.wtch 0 0 0x400 0) State.reset = [0x1A] ∧
    payload (.wtch 0 0 1 2) State.reset = [0x1A] ∧ payload (.wtcd 0 0) State.reset = [0x03] ∧
    payload (.wtcd 0 0) (sA fun rd => { rd with watch := { rd.watch with armed := true } }) = [0x00] := by decide +kernel

/-! ## The reader core -/

/-- R7, R8: STRT IMMEDIATE and AT-FRAME, and their refusals. -/
theorem test_strt :
    ((after (.strtImmediate 0 0 0 5) State.reset).rd .a).state = .running ∧
    ((after (.strtImmediate 0 0 0 5) State.reset).rd .a).monitor.frameCount = 5 ∧
    ((after (.strtAtFrame 0 0 1 5) State.reset).rd .a).state = .armed ∧
    payload (.strtAtFrame 0 0 2 5) State.reset = [0x1A] ∧ payload (.strtImmediate 0 0 0 5) (started .armed 0) = [0x13] ∧
    payload (.strtImmediate 0 2 0 5) State.reset = [0x12] := by decide +kernel

/-- R10: STOP returns the discarded count, the frame count and the index. -/
theorem test_stop :
    payload (.stop 0 0) (started .running 258 fun rd =>
      { rd with table := [click 1 2 .closed, click 3 4 .committed], monitor := { rd.monitor with frameCount := 3 } }) =
        [0x00, 1, 3, 0, 0, 0, 2, 1, 0, 0, 0, 0] ∧
    payload (.stop 0 0) State.reset = [0x13] := by decide +kernel

/-- R11 to R13: BYPS ON and OFF. -/
theorem test_byps :
    payload (.bypsOn 0 0) (started .running 0 fun rd => { rd with table := [click 1 2 .opened] }) = [0x00, 1] ∧
    payload (.bypsOn 0 0) State.reset = [0x13, 0] ∧ payload (.bypsOff 0 0) (started .bypassed 0) = [0x00, 0] ∧
    payload (.bypsOff 0 0) (started .running 0) = [0x03, 0] := by decide +kernel

/-- R3, R4: a sample entered leaves through the output 1024 periods later, from position 1023. -/
theorem test_entry_moves_window :
    let s := sA fun rd => { rd with lane0 := { rd.lane0 with
      window := List.replicate 1023 { sample := 0, mark := false } ++ [{ sample := 77, mark := false }] } }
    let t := (after (.entryEvent .a 5 6 .lane0) s).rd .a
    t.output = some (77, 0) ∧ t.lane0.window.head? = some { sample := 5, mark := false } ∧ t.lane0.window.length = 1024 ∧
      t.entered = 0 := by decide +kernel

/-- 1.9: the count of 4095 becomes 4096, and the lane STUCK and its sample marked; another value ends it. -/
theorem test_stuck_lane :
    let s := started .running 14096 fun rd =>
      { rd with lane0 := { rd.lane0 with equalRun := 4095, lastEntered := 9 }
                lane1 := { rd.lane1 with equalRun := 9999, lastEntered := -512, stuck := true } }
    let t := (after (.entryEvent .a 9 3 .lane0) s).rd .a
    (t.lane0.equalRun, t.lane0.stuck, t.lane0.window.head?) = (4096, true, some { sample := 9, mark := true }) ∧
    (t.lane1.equalRun, t.lane1.stuck, t.lane1.window.head?) = (0, false, some { sample := 3, mark := false }) := by decide +kernel

/-- 1.10: the lane whose exiting sample is marked carries its twin's output in TWIN mode. -/
theorem test_twin_fallback :
    let last := fun x m => List.replicate 1023 { sample := 0, mark := false } ++ [({ sample := x, mark := m } : Cell)]
    let s := started .running 5000 fun rd =>
      { rd with laneMode := .twin, lane0 := { rd.lane0 with window := last 50 false }
                lane1 := { rd.lane1 with window := last 60 true } }
    ((after (.entryEvent .a 1 2 .lane0) s).rd .a).output = some (50, 50) := by decide +kernel

/-- R19: CLOCK_LOST silences the output, CLOCK_BACK ends it, each with a LANE report. -/
theorem test_clock :
    let t := after (.clockLost .a) State.reset
    ((t.rd .a).clockLost, (t.rd .a).output, t.queue.records.length) = (true, none, 1) ∧
    ((after (.clockBack .a) t).rd .a).clockLost = false ∧ (after (.clockBack .a) t).queue.records.length = 2 := by decide +kernel

/-- R15: LANE_STUCK where the count has reached the stuck count. -/
theorem test_lane_stuck :
    let s := started .running 9 fun rd => { rd with lane0 := { rd.lane0 with equalRun := 4096 } }
    ((after (.laneStuck .a) s).rd .a).lane0.stuck = true ∧ ((after (.laneStuck .a) (started .running 9)).rd .a).lane0.stuck = false := by
  decide +kernel

/-- R130: HISS_BLOCK_COMPLETE with the block of the example. -/
theorem test_hiss_block_complete :
    let s := started .running 9 fun rd =>
      { rd with params := { rd.params with slot0 := { rd.params.slot0 with set := { rd.params.slot0.set with hissEnable := true } } }
                lane0 := { rd.lane0 with hiss := { rd.lane0.hiss with step := 10, blockSum := 5000, blockCount := 64 } } }
    ((after (.hissBlockComplete .a .lane0) s).rd .a).lane0.hiss.step = 9 := by decide +kernel

/-- R160: CTS_ASSERTED begins the head record with its report-lost field fixed. -/
theorem test_cts :
    let s := { State.reset with cts := false, queue := { queueOf 0 1 with enabled := true, lost := true } }
    let t := after (.ctsAsserted true) s
    t.queue.lost = false ∧ t.queue.records.map (·.lost) = [true] ∧ (after (.ctsAsserted false) s).link.transmitter = .idle ∧
    (after .messageSent t).queue.records = [] := by decide +kernel

/-- R178: a request behind an outstanding reply waits, and is taken as the reply leaves. -/
theorem test_pending_request :
    let t := after (.wtcd 2 0) (after (.idnt 1) State.reset)
    t.link.pendingRequest = some { type := 0x15, tag := 2, payload := [0] } ∧
    (after (.wtcd 3 0) t).link.linkFault = true ∧
    (after .messageSent t).link.reply = some { type := 0x95, tag := 2, payload := [0x03], isRset := false } ∧
    (after .pendingRequestTaken { t with link := { t.link with reply := none } }).link.pendingRequest = none := by decide +kernel

/-! ## What meets the hypotheses of each statement

For each statement with hypotheses, a state and operands that meet them, for each clause at a boundary of its range. -/

/-- A reply outstanding that is not RSET's. -/
def waiting : State := after (.idnt 1) State.reset

/-- Reset with a command that waits. -/
def queued : State := { State.reset with pending := [.idnt 1] }

/-- Reader A with a set STAGED in slot 1 and EDIT in slot 2. -/
def staged (rd : Reader) : Reader :=
  { rd with params := { rd.params with slot1 := { rd.params.slot1 with role := .staged }
                                       slot2 := { rd.params.slot2 with role := .edit } } }

theorem test_witness_StepExecutesFrontCommand : State.reset.pending = [] := rfl

theorem test_witness_CommandForOneReaderLeavesTheOther :
    readerConcerned (.stop 0 1) = some .b ∧ readerConcerned (.realPulse .a) = some .a ∧
    (∃ t, exec (.stop 0 1) State.reset = .next t) ∧ ∃ t, exec (.realPulse .a) State.reset = .next t :=
  ⟨rfl, rfl, ⟨_, rfl⟩, ⟨_, rfl⟩⟩

theorem test_witness_FreeTransmitterHasNothingToSend :
    ∃ t, exec (.ctsAsserted true) State.reset = .next t ∧ t.link.transmitter = .idle ∧ t.cts = true :=
  ⟨_, rfl, by decide +kernel⟩

theorem test_witness_ResetsRestoreEveryBlock :
    ∃ bytes rep, (after (.rset 9) State.reset).link.transmitter = .reply bytes ∧
      (after (.rset 9) State.reset).link.reply = some rep ∧ rep.isRset = true :=
  ⟨_, _, rfl, rfl, by decide +kernel⟩

theorem test_witness_EveryStepKeepsQueueWithinItsPlaces :
    ({ queued with queue := queueOf 56 8 }).queue.Sound ∧ ∃ t, step { queued with queue := queueOf 56 8 } = .next t := by
  refine ⟨?_, _, rfl⟩
  unfold ReportQueue.Sound
  decide +kernel

theorem test_witness_EveryStepKeepsStoresAndCounters :
    queued.EachReader Reader.StoresSound ∧ queued.EachReader Reader.CountsSound ∧ ∃ t, step queued = .next t := by
  refine ⟨?_, ?_, _, rfl⟩
  · unfold State.EachReader Reader.StoresSound
    decide +kernel
  · unfold State.EachReader Reader.CountsSound
    decide +kernel

theorem test_witness_EveryStepKeepsHumWeightsInRange : queued.EachLane LaneState.HumSound ∧ ∃ t, step queued = .next t := by
  refine ⟨?_, _, rfl⟩
  unfold State.EachLane State.EachReader LaneState.HumSound HumLaneSlot.Sound
  decide +kernel

theorem test_witness_EveryStepKeepsListsIdleReadersAndDetectors :
    queued.EachReader Reader.ListsSound ∧ queued.EachReader Reader.IdleSound ∧
    queued.EachLane (fun ln => ln.detector.Sound) ∧ ∃ t, step queued = .next t := by
  refine ⟨?_, ?_, ?_, _, rfl⟩
  · unfold State.EachReader Reader.ListsSound
    decide +kernel
  · unfold State.EachReader Reader.IdleSound
    decide +kernel
  · unfold State.EachLane State.EachReader Detector.Sound
    decide +kernel

theorem test_witness_EveryStepKeepsSetsAndHissStep :
    queued.EachReader (fun rd => rd.params.RolesSound ∧ rd.params.FieldsSound ∧ rd.lane0.hiss.Sound rd.active ∧
      rd.lane1.hiss.Sound rd.active) ∧ ∃ t, step queued = .next t := by
  refine ⟨?_, _, rfl⟩
  unfold State.EachReader Params.RolesSound Params.FieldsSound Hiss.Sound
  decide +kernel

theorem test_witness_StrtImmediateStartsReader :
    State.reset.link.reply = none ∧ (State.reset.rd .a).state = .stopped ∧
    ((sA staged).rd .a).params.holder .staged = some .slot1 := by decide +kernel

theorem test_witness_StrtAtFrameArmsReader :
    State.reset.link.reply = none ∧ (State.reset.rd .a).state = .stopped ∧ 1 < (2#8).toNat ∧
    (started .armed 0).link.reply = none ∧ ((started .armed 0).rd .a).state ≠ .stopped := by decide +kernel

theorem test_witness_StopEndsRun :
    (State.reset.rd .a).state = .stopped ∧ ((started .armed 0).rd .a).state ≠ .stopped ∧
    (started .armed 0).link.reply = none := by decide +kernel

theorem test_witness_BypsEntersAndLeavesBypass :
    ∀ state ∈ [ReaderState.stopped, .armed, .running, .bypassed],
      ((started state 0).rd .a).state = state ∧ (started state 0).link.reply = none := by decide +kernel

theorem test_witness_SetwWritesEditSetOrNothing :
    let w : FieldWrite := { id := 1, value := 1 }
    let none0 : FieldWrite := { id := 0, value := 1 }
    ([] : List FieldWrite).length = 0 ∧ 128 < (List.replicate 129 w).length ∧ (List.replicate 128 w).length ≤ 128 ∧
    [w, none0].find? (fun x => !writeValid x) = some none0 ∧ (∀ x ∈ [w], writeValid x = true) ∧
    (State.reset.rd .a).params.holder .edit = some .slot1 := by decide +kernel

theorem test_witness_WriteSetsItsFieldAlone :
    writeValid { id := 1, value := 1 } = true ∧ writeValid { id := 2, value := -1 } = true ∧
    writeValid { id := 127, value := 5 } = false ∧ writeValid { id := 124, value := 99 } = true := by decide +kernel

theorem test_witness_SetrReturnsSetOfRole :
    3 < (4#8).toNat ∧ Role.spare.code = 3#8 ∧ (∀ i ∈ [SlotId.slot0, .slot1, .slot2], ((State.reset.rd .a).params.slot i).role ≠ .staged) ∧
    ((State.reset.rd .a).params.slot .slot2).role = .spare ∧
    ∀ j ∈ [SlotId.slot0, .slot1, .slot2], ((State.reset.rd .a).params.slot j).role = .spare → j = .slot2 := by decide +kernel

theorem test_witness_SetcChecksAndCommitsEditSet :
    (State.reset.rd .a).params.RolesSound ∧ ((State.reset.rd .a).params.slot .slot1).role = .edit ∧
    ((State.reset.rd .a).params.slot .slot2).role = .spare ∧ ((sA staged).rd .a).params.RolesSound ∧
    (((sA staged).rd .a).params.slot .slot2).role = .edit ∧ (((sA staged).rd .a).params.slot .slot1).role = .staged := by
  unfold Params.RolesSound
  decide +kernel

theorem test_witness_HoldSyncAndRelsMoveTheirFlags :
    State.reset.link.reply = none ∧ (0#8 ≠ 1 ∧ 0#8 ≠ 2 ∧ 0#8 ≠ 3) ∧ (4#8 ≠ 1 ∧ 4#8 ≠ 2 ∧ 4#8 ≠ 3) := by decide +kernel

theorem test_witness_SplcAndExcrRemoveAndSpllAndExclList :
    let s := sA fun rd =>
      { rd with schedule := [{ picture := 1, due := 0xFFFFFFFF }], exclusions := [{ first := 0, last := 0 }] }
    s.link.reply = none ∧ (∃ x ∈ (s.rd .a).schedule, x.due = (0xFFFFFFFF#32).toNat) ∧
    (∀ x ∈ (s.rd .a).schedule, x.due ≠ (0#32).toNat) ∧ (∃ x ∈ (s.rd .a).exclusions, x.first = (0#32).toNat) ∧
    ∀ x ∈ (s.rd .a).exclusions, x.first ≠ (1#32).toNat := by decide +kernel

theorem test_witness_WtchArmsAndWtcdDisarmsWatch :
    State.reset.link.reply = none ∧ (0#16).toNat = 0 ∧ 1023 < (1024#16).toNat ∧ 0 < (1023#16).toNat ∧ (1023#16).toNat ≤ 1023 ∧
    1 < (2#8).toNat ∧ WatchMode.any.code = 0 ∧ WatchMode.all.code = 1 ∧ State.reset.conditions .a &&& 1023#16 = 0 ∧
    (started .running 0 fun rd => { rd with unrecorded := 1 }).conditions .a &&& 512#16 = 512#16 ∧
    (State.reset.rd .b).watch.armed = false ∧
    ((sA fun rd => { rd with watch := { rd.watch with armed := true } }).rd .a).watch.armed = true := by decide +kernel

theorem test_witness_ReptAndRsetActAndOtherRequestsWait :
    requestOf (.stat 3 2) = some (3, .stat 2) ∧ (Request.stat 2).readerField = some 2 ∧ 1 < (2#8).toNat ∧
    (Request.stat 2).lengthOk = true ∧ State.reset.link.reply = none ∧ waiting.link.reply.isSome = true ∧
    waiting.link.pendingRequest = none ∧ (after (.stat 3 2) waiting).link.pendingRequest.isSome = true := by decide +kernel

theorem test_witness_EntryBeforeStartMovesWindows :
    (State.reset.rd .a).clockLost = false ∧ (State.reset.rd .a).state = .stopped ∧ ((started .armed 0).rd .a).clockLost = false ∧
    ((after (.clockLost .a) State.reset).rd .a).clockLost = true := by decide +kernel

theorem test_witness_OutputFollowsTheReaderState :
    ((started .running 5).rd .a).clockLost = false ∧ ((started .running 5).rd .a).state = .running ∧
    ((started .bypassed 5).rd .a).clockLost = false ∧ ((started .bypassed 5).rd .a).state = .bypassed ∧
    ((started .bypassed 5).rd .a).params.releases = false := by decide +kernel

/-- A pulse in RUNNING that seeds S, a pulse in BYPASSED, and FREE due; a slot that its new increment puts out of band. -/
theorem test_witness_PhasesAdvanceAndIncrementsFollowS :
    let wide : HumConfig := { enabled := true, source := .frame, order := 64, fixedInc := 1, shift := 14 }
    let rd := (started .running 1100 fun rd =>
      { rd with
        monitor := { tracking 8000 [] with state := .absent }
        params := { rd.params with slot0 := { rd.params.slot0 with set :=
          { rd.params.slot0.set with hum := rd.params.slot0.set.hum.set 2 wide } } }
        lane0 := { rd.lane0 with hum := rd.lane0.hum.set 2 { HumLaneSlot.reset with status := .seeking } } }).rd .a
    let f := (started .running 2000 fun rd => { rd with
      monitor := { tracking 8000 [] with state := .holdover, lastEvent := 0, holdoverTicks := 47 } }).rd .a
    rd.clockLost = false ∧ rd.state = .running ∧ rd.monitor.reference = .valid 1000 ∧ rd.index = 1100 ∧ rd.params.releases = false ∧
    rd.active.pmin ≤ 100 ∧ 100 ≤ rd.active.pmax ∧ rd.lane0.hum[2].status = .seeking ∧
    (2 : Int) ^ 31 ≤ roundQ (2 ^ 36 * 64) (16 * 100) ∧
    ((started .bypassed 5).rd .a).state = .bypassed ∧ f.freeDue = true ∧ (State.reset.rd .a).clockLost = false := by
  decide +kernel

theorem test_witness_ResidualMovesTheWeights :
    let s := monitored (tracking 8000 []) 1438
    let next := fun s : State => { s.rd .a with entered := (s.rd .a).entered + 1 }
    ((0 : Nat) < 1 ∧ 1 < 4096 ∧ 4095 < 4096 ∧ 2048 ≤ 2048) ∧ (s.rd .a).clockLost = false ∧ (s.rd .a).state = .running ∧
    (next s).holdoverDue = false ∧ (next s).tickDue = false := by decide +kernel

theorem test_witness_EntryJudgesStuckLanes :
    ((started .running 5).rd .a).clockLost = false ∧ ((started .running 5).rd .a).state = .running ∧
    ((started .bypassed 5).rd .a).clockLost = false ∧ ((started .bypassed 5).rd .a).state = .bypassed := by decide +kernel

/-- A sample of 1024 is hot against the envelope 16 and its clicks are within Lmax; one of 0 is not hot. A covered sample, and
tables of 30, 31 and 32 entries. -/
theorem test_witness_HotSampleOpensRunOrSaturates :
    let full := fun n : Nat => (hunting .idle (List.replicate n (click 1900 1910 .closed))).rd .a
    (∀ n ∈ [0, 30, 31, 32], (full n).state = .running ∧ (full n).clockLost = false ∧ (full n).params.releases = false ∧
      (full n).active.detectorEnable = true ∧ (full n).active.guard ≤ 16 ∧ 2 ≤ (full n).lane0.detector.history ∧
      (full n).lane0.detector.run = .idle ∧ (full n).lane1.detector.run ≠ .run ∧ (full n).table.length = n) ∧
    (∀ y ∈ (full 32).table, isRunOf .lane0 y = false) ∧
    (full 0).active.threshold * max (full 0).lane0.detector.envelope 16 < 1024 * 16 ∧
    2 * (full 0).active.guard + 1 ≤ (full 0).active.lmax ∧ (after (.entryEvent .a 0 0 .lane0) (hunting .idle [])).rd .a ≠
      (after (.entryEvent .a 1024 0 .lane0) (hunting .idle [])).rd .a ∧
    (click 2004 2004 .closed).lanes.has .lane0 = true ∧ isRunOf .lane0 (click 2004 2004 .closed) = false := by decide +kernel

theorem test_witness_SampleActsOnRunState :
    let x : RunRecord := { firstHot := 2000, lastHot := 2003 }
    (∀ phase ∈ [RunState.catchup, .saturated, .run],
      let rd := (hunting phase [click 2000 2007 (if phase = .run then .opened else .closed)]).rd .a
      rd.state = .running ∧ rd.clockLost = false ∧ rd.params.releases = false ∧ rd.active.detectorEnable = true ∧
      2 ≤ rd.lane0.detector.history ∧ rd.lane1.detector.run ≠ .run ∧ rd.lane0.detector.run = phase ∧
      rd.lane0.detector.quiet + 1 = rd.active.mergeGap + 1) ∧
    (∀ y ∈ [click 2000 2007 .closed], isRunOf .lane0 y = false) ∧ isRunOf .lane0 (click 2000 2007 .opened) = true ∧
    [click 2000 2007 .opened].countP (isRunOf .lane0) = 1 ∧ 2004 < (click 2000 2007 .opened).spanStart + 1023 ∧
    ((hunting .run [click 2000 2007 .opened]).rd .a).lane0.detector.record = some x ∧ 2004 < (click 982 2007 .opened).spanStart + 1023 := by
  decide +kernel

theorem test_witness_ArmingPulseStartsReader :
    (State.reset.rd .a).state = .stopped ∧ ((started .armed 5).rd .a).state = .armed ∧
    ((started .armed 5).rd .a).params.RolesSound := by
  unfold Params.RolesSound
  decide +kernel

/-- The least and the greatest interval that R28 accepts at S = 8000. -/
theorem test_witness_TrackingFollowsAcceptedIntervals :
    let s := monitored (tracking 8000 []) 1438
    let m := (s.rd .a).monitor
    (s.rd .a).state = .running ∧ m.state = .tracking ∧ m.reference = .valid 1000 ∧ (s.rd .a).clockLost = false ∧
    (s.rd .a).index = 1438 ∧ (s.rd .a).active.pmin ≤ 438 ∧ 438 ≤ (s.rd .a).active.pmax ∧
    m.smoothed - m.smoothed / 8 ≤ 16 * 438 ∧ 16 * 562 ≤ m.smoothed + m.smoothed / 8 ∧
    ((monitored { tracking 8000 [] with reference := .void 1000 } 1438).rd .a).monitor.reference ≠ .valid 1000 := by
  decide +kernel

/-- Rejected: just below the window, and outside the bounds. -/
theorem test_witness_RejectedIntervalsReseed :
    let rd := (monitored (tracking 8000 [437, 437]) 1437).rd .a
    rd.state = .running ∧ rd.monitor.state = .tracking ∧ rd.monitor.reference = .valid 1000 ∧ rd.clockLost = false ∧
    rd.index = 1437 ∧ rd.active.pmin ≤ 437 ∧ 437 ≤ rd.active.pmax ∧
    ¬ (rd.monitor.smoothed - rd.monitor.smoothed / 8 ≤ 16 * 437) ∧ ¬ (rd.active.pmin ≤ 99) := by decide +kernel

theorem test_witness_PulseEntersTracking :
    let m := fun state => { tracking 8000 [] with state := state }
    let rd := fun state => (monitored (m state) 1100).rd .a
    (∀ state ∈ [MonitorState.absent, .holdover, .free],
      (rd state).state = .running ∧ (rd state).monitor.state ≠ .tracking ∧ (rd state).clockLost = false ∧
      (rd state).monitor.reference = .valid 1000 ∧ { rd state with clockLost := true }.state = .running) ∧
    (rd .free).index = 1100 ∧ (rd .free).active.pmin ≤ 100 ∧ 99 < (rd .free).active.pmin ∧
    (rd .free).active.pmax < 20001 ∧ ((monitored Monitor.reset 5).rd .a).monitor.reference ≠ .valid 1000 := by decide +kernel

/-- Each frame event, with the set applied and withheld; and a tick at S = 2048 that applies a set with slot 1 changed, slot 0
at its least increment out of band, slot 2 in band, slot 3 OFF, the monitor period and the hiss enable changed. -/
theorem test_witness_FrameEventAppliesStagedSet :
    let m := { tracking 8000 [] with state := .free, lastEvent := 0 }
    let t := (started .running 2000 fun rd => staged { rd with monitor := m }).rd .a
    let h := (started .running 2000 fun rd => staged { rd with monitor := tracking 8000 [] }).rd .a
    let f := (started .running 2000 fun rd => staged
      { rd with monitor := { m with state := .holdover, holdoverTicks := 47 } }).rd .a
    let old := { ParamSet.default with
      hum := ParamSet.default.hum.set 0 { HumConfig.default with enabled := true, order := 64 } }
    let new := { old with hum := old.hum.set 1 { HumConfig.default with enabled := true }, monitorPeriod := 8, hissEnable := true }
    let s := fun (next : ParamSet) (hold : Bool) => started .running 2000 fun rd => staged
      { rd with
        monitor := { m with smoothed := 2048 }
        params :=
          { rd.params with
            slot0 := { rd.params.slot0 with set := old }, slot1 := { rd.params.slot1 with set := next }, hold := hold }
        lane0 := { rd.lane0 with hum := rd.lane0.hum.map fun x => { x with status := .seeking } } }
    let r := (s new false).rd .a
    let u := (after (.virtualTick .a) (s new false)).rd .a
    (t.params.RolesSound ∧ h.params.RolesSound ∧ f.params.RolesSound ∧ t.state = .running ∧ Role.staged ∈ t.params.roles ∧
      t.params.hold = false ∧ t.tickDue = true ∧ h.holdoverDue = true ∧ f.freeDue = true) ∧
    (r.params.RolesSound ∧ ((s old true).rd .a).params.RolesSound ∧ ((s old true).rd .a).params.hold = true ∧
      ((s old true).rd .a).params.syncPending = false ∧ ((s old true).rd .a).tickDue = true) ∧
    (r.tickDue = true ∧ Role.staged ∈ r.params.roles ∧ r.params.hold = false ∧ r.active = old ∧ u.active = new ∧
      old.hum[0] = new.hum[0] ∧ old.hum[1] ≠ new.hum[1] ∧ r.lane0.hum[0].status = .seeking ∧ r.lane1.hum[3].status = .off ∧
      u.hum.slots[0].delta.toNat = 2 ^ 31 ∧ u.hum.slots[2].delta.toNat < 2 ^ 31 ∧ old.monitorPeriod ≠ new.monitorPeriod ∧
      2 ≤ new.monitorPeriod ∧ ¬ old.hissEnable = new.hissEnable) ∧
    State.reset.queue.placeHeld = false ∧ (queueOf 0 56).records.length + 8 ≤ 64 := by
  unfold Params.RolesSound
  decide +kernel

/-- A splice due and one later; and one past due with a place for it, and with none. -/
theorem test_witness_PulseExpiresListsAndOpensDueSplice :
    let s := fun due => started .running 60000 fun rd => { rd with schedule := [{ picture := 1, due := due }, { picture := 2, due := 2 }] }
    let rd := (s 1).rd .a
    let late := (s 0).rd .a
    rd.state = .running ∧ rd.schedule.Pairwise (fun x y => x.due < y.due) ∧ rd.clockLost = false ∧ rd.table = [] ∧
    rd.schedule.head?.map (·.due) = some (min (rd.monitor.frameCount + 1) (2 ^ 32 - 1)) ∧ rd.params.releases = false ∧
    1 ≤ rd.active.splicePost ∧ rd.unrecorded ≤ 65535 ∧ rd.committedTotal < 2 ^ 32 ∧
    late.schedule.Pairwise (fun x y => x.due < y.due) ∧
    (∀ x ∈ late.schedule, x.due ≠ min (late.monitor.frameCount + 1) (2 ^ 32 - 1)) ∧
    (late.schedule.filter fun x => x.due < 1).length = 1 ∧ late.nextNumber + 1 < 2 ^ 32 ∧
    (queueOf 55 0).placeHeld = false ∧ (queueOf 55 0).dfctCount + 1 ≤ 56 ∧ (queueOf 55 0).records.length + 1 + 8 ≤ 64 ∧
    56 ≤ (queueOf 56 0).dfctOccupied := by decide +kernel

/-- The splice of 5.3: from 59 968 to 60 095 it absorbs the entry from 59 976 to 59 987, and is clipped. -/
theorem test_witness_SpliceAbsorbsAndIsClipped :
    let rd := (started .running 60000 fun rd =>
      { rd with schedule := [{ picture := 1, due := 1 }]
                table := [click 59960 59970 .committed, { click 59976 59987 .opened with lanes := .only .lane1 }] }).rd .a
    let absorbs := fun (a b : Nat) (y : Defect) =>
      y.state != .committed && y.kind == .click && decide (y.spanStart ≤ b) && decide (a ≤ y.spanEnd)
    let a := rd.entered - rd.active.splicePre
    let b := rd.entered + rd.active.splicePost - 1
    rd.state = .running ∧ rd.clockLost = false ∧ rd.params.releases = false ∧ 1 ≤ rd.active.splicePost ∧
    rd.schedule.head?.map (·.due) = some (min (rd.monitor.frameCount + 1) (2 ^ 32 - 1)) ∧
    (∀ y ∈ rd.table, y.spanStart ≤ y.spanEnd) ∧ rd.table.map (absorbs a b) = [false, true] ∧
    (∀ y ∈ rd.table, absorbs a b y = true → a ≤ y.spanStart ∧ y.spanEnd ≤ b) ∧
    (∀ a' b' : Nat, a' ≤ a ∧ b ≤ b' ∧ (∀ y ∈ rd.table, absorbs a' b' y = true → a' ≤ y.spanStart ∧ y.spanEnd ≤ b') →
      a' ≤ a ∧ b ≤ b') ∧
    rd.unrecorded ≤ 65535 ∧ State.reset.queue.placeHeld = false ∧ (queueOf 55 1).dfctCount < 56 ∧
    (queueOf 55 1).records.length + 8 ≤ 64 := by
  refine ⟨by decide +kernel, by decide +kernel, by decide +kernel, by decide +kernel, by decide +kernel, by decide +kernel,
    by decide +kernel, by decide +kernel, fun _ _ h => ⟨h.1, h.2.1⟩, by decide +kernel, by decide +kernel, by decide +kernel,
    by decide +kernel⟩

theorem test_witness_ClockAndStuckLaneConditionsChange :
    (State.reset.rd .a).clockLost = false ∧ ((after (.clockLost .a) State.reset).rd .a).clockLost = true ∧
    ((started .running 9 fun rd => { rd with lane0 := { rd.lane0 with equalRun := 4096 } }).rd .a).stuckDue = true := by
  decide +kernel

/-- The three rows, at H and at 1; and entry events that find nothing due, HOLDOVER, and a tick, one index before and at. -/
theorem test_witness_HoldoverTicksCountToFree :
    let one := fun rd : Reader => { rd with params := { rd.params with slot0 :=
      { rd.params.slot0 with set := { rd.params.slot0.set with holdover := 1 } } } }
    let h := (started .running 2000 fun rd => { rd with monitor := tracking 8000 [] }).rd .a
    let h1 := (started .running 2000 fun rd => one { rd with monitor := tracking 8000 [] }).rd .a
    let held := { tracking 8000 [] with state := .holdover, holdoverTicks := 46 }
    let t := (started .running 2000 fun rd => { rd with monitor := held }).rd .a
    let f := (started .running 2000 fun rd => { rd with monitor := { held with holdoverTicks := 47 } }).rd .a
    let e := fun (state : ReaderState) (m : Monitor) (n : Nat) => ((started state n fun rd => { rd with monitor := m }).rd .a)
    (h.holdoverDue = true ∧ 2 ≤ h.active.holdover ∧ h1.holdoverDue = true ∧ h1.active.holdover ≤ 1 ∧ t.tickDue = true ∧
      t.active.holdover = t.monitor.holdoverTicks + 2 ∧ f.tickDue = true ∧ f.active.holdover = f.monitor.holdoverTicks + 1) ∧
    ∀ state ∈ [ReaderState.running, .bypassed],
      (e state held 1498).clockLost = false ∧ (e state held 1498).state = state ∧
      (e state (tracking 8000 []) (1998 + 1)).holdoverDue = false ∧ (e state (tracking 8000 []) (1998 + 1)).tickDue = false ∧
      (e state (tracking 8000 []) (1999 + 1)).holdoverDue = true ∧
      (e state held (1498 + 1)).holdoverDue = false ∧ (e state held (1498 + 1)).tickDue = false ∧
      (e state held (1499 + 1)).holdoverDue = false ∧ (e state held (1499 + 1)).tickDue = true := by
  decide +kernel

/-- A run that overlaps nothing, in STEREO and in TWIN mode, and one that merges the CLOSED entry of its twin. -/
theorem test_witness_RunClosesAndTwinEntriesMerge :
    let x : RunRecord := { firstHot := 5000, lastHot := 5003 }
    let d := click 4996 5007 .opened
    let mate := { click 4997 5005 .closed with lanes := .only .lane1 }
    let rd := fun (mode : LaneMode) (y : Defect) => (started .running 5013 fun rd =>
      { (rd.onLane .lane0 fun ln => { ln with detector := { ln.detector with run := .run, quiet := 9, record := some x } }) with
        laneMode := mode, table := [y, d] }).rd .a
    (∀ mode ∈ [LaneMode.stereo, .twin], ∀ y ∈ [click 4990 4995 .committed, mate],
      (rd mode y).state = .running ∧ (rd mode y).clockLost = false ∧ (rd mode y).appliedSince = false ∧
      (rd mode y).laneMode = mode ∧ (rd mode y).lane0.detector.run = .run ∧ (rd mode y).lane0.detector.record = some x ∧
      (rd mode y).active.mergeGap < (rd mode y).lane0.detector.quiet ∧ (rd mode y).table = [y] ++ d :: [] ∧
      isRunOf .lane0 d = true ∧ (∀ z ∈ [y] ++ [], isRunOf .lane0 z = false)) ∧
    ((rd .twin mate).lane (twinOf .lane0)).stuck = false ∧
    ((rd .twin mate).lane (twinOf .lane0)).markedIn 5013 4996 5007 = false ∧
    (click 4990 4995 .committed).lanes.has (twinOf .lane0) = false ∧
    (mate.state = .closed ∧ mate.kind = .click ∧ mate.lanes = .only (twinOf .lane0) ∧ mate.spanStart ≤ 5007 ∧ 4996 ≤ mate.spanEnd) ∧
    (mergedEntry d [mate]).spanEnd + 1 - (mergedEntry d [mate]).spanStart ≤ (rd .stereo mate).active.lmax := by decide +kernel

theorem test_witness_SmallReaderEvents :
    let rd := (started .running 100 fun rd => rd.onLane .lane0 fun ln =>
      { ln with detector := { ln.detector with run := .saturated, quiet := 9 }, hiss := { ln.hiss with blockCount := 64 } }).rd .a
    let on := { rd.active with hissEnable := true }
    rd.clockLost = false ∧ rd.state = .running ∧ rd.appliedSince = false ∧ (rd.lane .lane0).detector.run = .saturated ∧
    rd.active.mergeGap < (rd.lane .lane0).detector.quiet ∧ 64 ≤ (rd.lane .lane0).hiss.blockCount ∧
    ((sA fun x => { x with params := { x.params with slot0 := { x.params.slot0 with set := on } } }).rd .a).active.hissEnable = true ∧
    ((started .bypassed 100).rd .a).state = .bypassed := by decide +kernel

theorem test_witness_DueEntriesCommit :
    let rd := (started .running 9).rd .a
    let d := click 3 5 .closed
    rd.clockLost = false ∧ rd.state = .running ∧ (d.state = .closed ∧ d.spanEnd + (d.spanEnd + 1 - d.spanStart) < rd.entered) ∧
    (({ d with cut := true }).cut = true ∧ d.spanEnd + 1 < 7) ∧ (d.state ≠ .committed ∧ d.spanStart + 1023 < 1027) ∧
    ((started .bypassed 9).rd .a).state = .bypassed ∧ ((started .bypassed 9).rd .a).clockLost = false := by
  decide +kernel

/-- A period that is due; and pulses and ticks in RUNNING with no set STAGED, below the monitor period and at it. -/
theorem test_witness_PeriodEndSettlesSlots :
    let rd := (started .running 9 fun rd => { rd with hum := { rd.hum with periodCounter := 16 } }).rd .a
    let s := fun (m : Monitor) (count : Nat) => started .running 2000 fun rd =>
      { rd with monitor := m, hum := { rd.hum with periodCounter := count }, lane0 := { rd.lane0 with adapted := true } }
    let held := { tracking 8000 [] with state := .holdover }
    (rd.state = .running ∧ rd.active.monitorPeriod ≤ rd.hum.periodCounter) ∧
    (∀ m ∈ [tracking 8000 [], held], ∀ count ∈ [14, 15],
      ((s m count).rd .a).state = .running ∧ ((s m count).rd .a).params.releases = false) ∧
    ((s (tracking 8000 []) 14).rd .a).active.monitorPeriod = 14 + 2 ∧
    ((s (tracking 8000 []) 15).rd .a).active.monitorPeriod = 15 + 1 ∧
    ((s (tracking 8000 []) 15).rd .a).holdoverDue = true ∧ ((s held 15).rd .a).tickDue = true ∧
    ((s { held with holdoverTicks := 47 } 15).rd .a).freeDue = true ∧
    (∀ i : Fin 12, ((after (.realPulse .a) (s held 15)).rd .a).hum.slots[i].delta.toNat < 2 ^ 31) := by decide +kernel

/-- The last granted place and the refused ones; a slot ARMED for the entry and one HELD; a CAPD with no other place. -/
theorem test_witness_CommitIsUnrecordedOrRecorded :
    let s := started .running 9 fun rd => { rd with table := [click 3 5 .closed] }
    (s.rd .a).table[0]? = some (click 3 5 .closed) ∧ s.queue.dfctOccupied < 56 ∧ s.queue.occupied < 64 ∧
    56 ≤ (queueOf 56 0).dfctOccupied ∧ 64 ≤ (queueOf 0 64).occupied ∧
    (queueOf 55 8).dfctOccupied < 56 ∧ (queueOf 55 8).occupied < 64 ∧ ¬ (queueOf 55 8).records.length + 1 < 64 ∧
    (queueOf 55 7).records.length + 1 < 64 ∧ (s.rd .a).capture.state = .disarmed ∧
    ({ (s.rd .a).capture with state := .armed }).qualifier.admits (click 3 5 .closed) = true := by
  decide +kernel

theorem test_witness_ReplacementsLieBetweenTheirSamples :
    ((click 3 5 .closed).spanStart ≤ (click 3 5 .closed).spanEnd ∧
      2 ≤ (click 3 5 .closed).spanEnd - (click 3 5 .closed).spanStart) ∧
    (click 3 3 .closed).spanStart ≤ (click 3 3 .closed).spanEnd ∧
      0 ≤ (click 3 3 .closed).spanEnd - (click 3 3 .closed).spanStart := by decide

theorem test_witness_EnvelopeMovesTowardsTheDifference : 16 ≤ (16 : Nat) ∧ (16 : Nat) ≤ 2 ^ 25 ∧ 16 ≤ (2 : Nat) ^ 25 := by decide

/-- The filter enabled and disabled, at step 31 and below, before the block's last residual and at it; and a reader's. -/
theorem test_witness_HissFilterStaysBetweenStateAndResidual :
    ({ ParamSet.default with hissEnable := true }).hissEnable = true ∧ ParamSet.default.hissEnable = false ∧
    Hiss.reset.step ≤ 31 ∧ Hiss.reset.step = 31 ∧ ({ Hiss.reset with step := 0 }).step ≤ 31 ∧
    ({ Hiss.reset with blockCount := 62 }).blockCount + 1 < 64 ∧ 64 ≤ ({ Hiss.reset with blockCount := 63 }).blockCount + 1 ∧
    ((started .running 9).rd .a).clockLost = false ∧ ((started .running 9).rd .a).state = .running ∧
    ((started .running 9).rd .a).params.releases = false := by decide +kernel

theorem test_witness_TypeAndLengthDecideTheRequest :
    1 ≤ (0x01#8).toNat ∧ (0x19#8).toNat ≤ 0x19 ∧ (0x01#8).toNat ≠ 0x05 ∧ (0x05#8).toNat = 0x05 ∧
    decodeRequest 0x01 [] = .request .idnt ∧ decodeRequest 0x1A [] = .unknown ∧ decodeRequest 0x19 [0] = .badLength ∧
    decodeRequest 0x05 [0, 1, 2, 40, 0, 0, 0] = .request (.setw 0 [{ id := 2, value := 40 }]) := by decide +kernel

theorem test_witness_RequestFramesDecodeBack :
    (Request.setw 0 (List.replicate 128 { id := 2, value := 40 })).lengthOk = true ∧ (Request.stop 1).lengthOk = true := by
  decide +kernel

theorem test_witness_ReceivedFrameActsAsItsRequest :
    requestOf (.setw 1 0 [{ id := 2, value := 40 }]) = some (1, .setw 0 [{ id := 2, value := 40 }]) ∧
    (Instr.setw 1 0 [{ id := 2, value := 40 }]).wf = true ∧ State.reset.link.receiver = { state := .hunt, kept := [] } ∧
    State.reset.arbitrate = State.reset := by decide +kernel

/-- Lengths 1 and 1027; and a frame of two bytes whose check byte fails. -/
theorem test_witness_ReceiverHuntsAndDiscards :
    let s := fun receiver => State.reset.onLink fun k => { k with receiver := receiver }
    State.reset.link.receiver = { state := .hunt, kept := [] } ∧
    (after (.receiveByte 0xC3 false) State.reset).link.receiver.state ≠ .hunt ∧
    (s { state := .length, kept := [1] }).link.receiver = { state := .length, kept := [1] } ∧
    (1#8).toNat + 256 * (0#8).toNat < 2 ∧ 1026 < (3#8).toNat + 256 * (4#8).toNat ∧
    (s { state := .check, kept := [2, 0, 1, 0x5A] }).link.receiver = { state := .check, kept := 2 :: 0 :: [1, 0x5A] } ∧
    ([1, 0x5A] : List Byte).length = (2#8).toNat + 256 * (0#8).toNat ∧
    ((2 :: 0 :: ([1, 0x5A] ++ [0xA4]) : List Byte)).foldl (· + ·) 0 ≠ 0 ∧
    (s { state := .check, kept := [2, 0, 1, 0x5A] }).arbitrate = s { state := .check, kept := [2, 0, 1, 0x5A] } := by
  decide +kernel

theorem test_witness_PendingRequestsAndSentMessagesLeave :
    let held := { State.reset with link := { State.reset.link with pendingRequest := some { type := 0x16, tag := 3, payload := [0] } } }
    let reporting := { State.reset with link := { State.reset.link with transmitter := .report [1] } }
    requestOf (.stat 3 0) = some (3, .stat 0) ∧ (Instr.stat 3 0).wf = true ∧ held.link.reply = none ∧
    held.link.pendingRequest = some { type := (Request.stat 0).code, tag := 3, payload := (Request.stat 0).payload } ∧
    State.reset.link.pendingRequest = none ∧ waiting.link.reply ≠ none ∧ State.reset.link.transmitter = .idle ∧
    reporting.link.transmitter = .report [1] ∧ waiting.link.reply.map (·.isRset) = some false ∧
    waiting.link.transmitter = .reply (frameBytes 0x81 1 (payload (.idnt 1) State.reset)) ∧
    waiting.link.pendingRequest = none ∧
    (after (.stat 3 0) waiting).link.pendingRequest =
      some { type := (Request.stat 0).code, tag := 3, payload := (Request.stat 0).payload } ∧
    (after (.stat 3 0) waiting).link.transmitter = waiting.link.transmitter ∧
    (after (.stat 3 0) waiting).link.reply = waiting.link.reply := by decide +kernel

theorem test_witness_ArbiterChoosesByItsTable :
    let s := { State.reset with cts := false, queue := { queueOf 0 1 with enabled := true } }
    s.link.transmitter = .idle ∧ s.link.reply = none ∧ s.queue.enabled = true ∧ s.queue.records ≠ [] ∧
    (after (.ctsAsserted false) State.reset).link.transmitter = .idle ∧
    (after (.idnt 1) (after (.ctsAsserted false) State.reset)).link.reply.isSome = true := by decide +kernel

theorem test_witness_SplmSchedulesSplice : State.reset.link.reply = none := rfl

theorem test_witness_ExcaAddsRange : State.reset.link.reply = none := rfl

theorem test_witness_CapaArmsAndCapxReleasesCaptureSlot : State.reset.link.reply = none := rfl

theorem test_witness_CaprReadsCapturedSamples : State.reset.link.reply = none := rfl

theorem test_witness_StatReturnsAndClears : State.reset.link.reply = none := rfl

theorem test_witness_HumrAndIdntReturnTheirItems : State.reset.link.reply = none := rfl

end Sys2Proof.Tests
end

