-- ==== Sys2Proof/Proofs/MethodAndReplacement.lean ====
section
/-! The method of a commit (R75) and the values a repair writes (R84 to R88). -/

namespace Sys2Proof.Machine

/-! ## The method (R75, R101) -/

theorem Reader.excluded_iff (rd : Reader) :
    rd.excluded = true ↔ ∃ x ∈ rd.exclusions, x.first ≤ rd.monitor.frameCount ∧ rd.monitor.frameCount ≤ x.last := by
  simp [Reader.excluded]

/-- Settles O51: row by row, the test that the model makes is the condition of R75's table. -/
theorem methodFollowsItsOrder : Obligations.MethodFollowsItsOrder := by
  unfold Obligations.MethodFollowsItsOrder
  intro rd d complete click vetoed
  refine if_congr ?bypassed rfl <| if_congr ?vetoed rfl <| if_congr ?passed rfl <| if_congr Iff.rfl rfl <|
    if_congr ?linear rfl rfl
  case bypassed => exact beq_iff_eq
  case vetoed => rw [Bool.and_eq_true, beq_iff_eq, Reader.excluded_iff]
  case passed => rw [Bool.and_eq_true, beq_iff_eq, decide_eq_true_iff, Defect.length]
  case linear => rw [Bool.or_eq_true, Bool.or_eq_true, decide_eq_true_iff, Bool.not_eq_true', Bool.not_eq_true', or_assoc, Defect.length]

/-! ## Rounded quotients and weighted means (R85, R86) -/

/-- Rounding adds a whole number through. -/
theorem roundQ_add_mul (x num den : Int) (hden : 0 < den) : roundQ (x * den + num) den = x + roundQ num den := by
  unfold roundQ
  rw [show 2 * (x * den + num) + den = 2 * num + den + x * (2 * den) by ring, Int.add_mul_ediv_right _ _ (by omega),
    add_comm]

/-- A quotient between two whole numbers stays between them when it is rounded. -/
theorem roundQ_between {lo hi num den : Int} (hden : 0 < den) (hlo : lo * den ≤ num) (hhi : num ≤ hi * den) :
    lo ≤ roundQ num den ∧ roundQ num den ≤ hi := by
  unfold roundQ
  constructor
  · rw [Int.le_ediv_iff_mul_le (by omega)]
    linarith
  · rw [← Int.lt_add_one_iff, Int.ediv_lt_iff_lt_mul (by omega)]
    linarith

/-- LINEAR is the weighted mean of p and q that FILL takes of f and g. -/
theorem linearValue_eq_fillValue (p q : Int) (length i : Nat) : linearValue p q length i = fillValue p q length i := by
  unfold linearValue fillValue
  rw [← roundQ_add_mul _ _ _ (by omega)]
  congr 1
  ring

/-- The rounded mean of f and g, with weights that add up to its divisor, lies between them (R88). -/
theorem fillValue_between (f g : Int) {length i : Nat} (hi : i < length) :
    min f g ≤ fillValue f g length i ∧ fillValue f g length i ≤ max f g := by
  have hf : (0 : Int) ≤ (length : Int) - i := by omega
  have hg : (0 : Int) ≤ (i : Int) + 1 := by omega
  have hsum (x : Int) : x * ((length : Int) + 1) = x * (length - i) + x * (i + 1) := by ring
  apply roundQ_between (by omega)
  · rw [hsum]
    gcongr
    exacts [min_le_left f g, min_le_right f g]
  · rw [hsum]
    gcongr
    exacts [le_max_left f g, le_max_right f g]

/-! ## Window values are samples (R2, R84) -/

theorem LaneState.value_bounds (ln : LaneState) (n j : Nat) : -8388608 ≤ ln.value n j ∧ ln.value n j ≤ 8388607 := by
  unfold LaneState.value
  split
  · rename_i c _
    have hlo := c.sample.le_toInt
    have hhi := c.sample.toInt_lt
    omega
  · decide

/-- What lies between two samples is a sample: it needs no clamp (R88). -/
theorem sampleOf_toInt_between {x y z : Int} (hx : -8388608 ≤ x ∧ x ≤ 8388607) (hy : -8388608 ≤ y ∧ y ≤ 8388607)
    (hz : min x y ≤ z ∧ z ≤ max x y) : (sampleOf z).toInt = z :=
  sampleOf_toInt (by omega) (by omega)

theorem LaneState.beforeSpan_eq (ln : LaneState) (n : Nat) (d : Defect) :
    ln.beforeSpan n d =
      if 1 ≤ d.spanStart ∧ d.spanStart - 1 < n ∧ n ≤ d.spanStart - 1 + 1024 then ln.value n (d.spanStart - 1)
      else ln.value n (d.spanEnd + 1) := by
  simp [LaneState.beforeSpan, LaneState.afterSpan, Defect.after, inWindow, Config.windowLength]

theorem LaneState.beforeSpan_bounds (ln : LaneState) (n : Nat) (d : Defect) :
    -8388608 ≤ ln.beforeSpan n d ∧ ln.beforeSpan n d ≤ 8388607 := by
  rw [LaneState.beforeSpan_eq]
  split <;> exact ln.value_bounds _ _

/-- Settles O52: FILL and LINEAR write weighted means of two window values. -/
theorem replacementsLieBetweenTheirSamples : Obligations.ReplacementsLieBetweenTheirSamples := by
  unfold Obligations.ReplacementsLieBetweenTheirSamples
  intro rd l d i hspan hi ln n a b N f g q p rounded fill linear
  have hlen : i < d.length := by
    unfold Defect.length
    omega
  have hp : ln.beforeSpan n d = p := ln.beforeSpan_eq n d
  have hfill : min f g ≤ fill ∧ fill ≤ max f g := fillValue_between f g hlen
  have hlinear : min p q ≤ linear ∧ linear ≤ max p q := by
    have heq : linear = fillValue p q d.length i := by rw [← linearValue_eq_fillValue, ← hp]; rfl
    rw [heq]
    exact fillValue_between p q hlen
  have hpBounds : -8388608 ≤ p ∧ p ≤ 8388607 := hp ▸ ln.beforeSpan_bounds n d
  refine ⟨⟨rfl, hfill.1, hfill.2, ?_⟩, ⟨?_, hlinear.1, hlinear.2, ?_⟩, rfl⟩
  · exact sampleOf_toInt_between (ln.value_bounds _ _) (ln.value_bounds _ _) hfill
  · rw [← hp]
    rfl
  · exact sampleOf_toInt_between hpBounds (ln.value_bounds _ _) hlinear

end Sys2Proof.Machine
end

section
/-! The requests that place a splice in the schedule (R92) and a range in the exclusion list (R102). -/

namespace Sys2Proof.Machine

/-! ## Placing an element in an ordered list (R91, R101) -/

/-- An element placed behind the leading elements that it follows leaves an ordered list ordered. -/
theorem pairwise_takeWhile_cons_dropWhile {α : Type} {R : α → α → Prop} {p : α → Bool} {x : α} {t : List α}
    (hbefore : ∀ y ∈ t, p y = true → R y x) (hafter : ∀ y ∈ t, p y = false → R x y)
    (htrans : ∀ y ∈ t, ∀ z ∈ t, R x y → R y z → R x z) (h : t.Pairwise R) :
    (t.takeWhile p ++ x :: t.dropWhile p).Pairwise R := by
  induction t with
  | nil => simp
  | cons y t ih =>
    simp only [List.forall_mem_cons] at hbefore hafter htrans
    obtain ⟨hyt, ht⟩ := List.pairwise_cons.mp h
    cases hp : p y with
    | true =>
      have hperm : (t.takeWhile p ++ x :: t.dropWhile p).Perm (x :: t) :=
        List.perm_middle.trans (by rw [List.takeWhile_append_dropWhile])
      rw [List.takeWhile_cons_of_pos hp, List.dropWhile_cons_of_pos hp, List.cons_append, List.pairwise_cons]
      refine ⟨fun z hz => ?_, ih hbefore.2 hafter.2 (fun a ha b hb => (htrans.2 a ha).2 b hb) ht⟩
      rcases List.mem_cons.mp (hperm.mem_iff.mp hz) with rfl | hz
      · exact hbefore.1 hp
      · exact hyt z hz
    | false =>
      have hxy : R x y := hafter.1 hp
      rw [List.takeWhile_cons_of_neg (by simp [hp]), List.dropWhile_cons_of_neg (by simp [hp]), List.nil_append,
        List.pairwise_cons, List.forall_mem_cons]
      exact ⟨⟨hxy, fun z hz => htrans.1.2 z hz hxy (hyt z hz)⟩, h⟩

/-- A splice with a due frame of its own leaves the schedule in ascending order of due frame (R91). -/
theorem insertSplice_sorted {t : List SpliceEntry} {x : SpliceEntry} (hnew : ∀ y ∈ t, y.due ≠ x.due)
    (h : t.Pairwise fun y z => y.due < z.due) : (insertSplice t x).Pairwise fun y z => y.due < z.due := by
  refine pairwise_takeWhile_cons_dropWhile (fun y _ hp => ?_) (fun y hy hp => ?_) (fun _ _ _ _ => Nat.lt_trans) h
  · exact of_decide_eq_true hp
  · have := of_decide_eq_false hp
    have := hnew y hy
    omega

/-- A range that shares no frame with the list leaves its ranges in order and apart (R101). -/
theorem insertRange_apart {t : List FrameRange} {x : FrameRange} (hx : x.first ≤ x.last)
    (hnew : ∀ y ∈ t, ¬ (y.first ≤ x.last ∧ x.first ≤ y.last)) (hwf : ∀ y ∈ t, y.first ≤ y.last)
    (h : t.Pairwise fun y z => y.last < z.first) : (insertRange t x).Pairwise fun y z => y.last < z.first := by
  refine pairwise_takeWhile_cons_dropWhile (fun y hy hp => ?_) (fun y hy hp => ?_) (fun y hy z _ hxy hyz => ?_) h
  · have := of_decide_eq_true hp
    have := hnew y hy
    omega
  · have := of_decide_eq_false hp
    have := hnew y hy
    have := hwf y hy
    omega
  · have := hwf y hy
    omega

/-! ## A reader's update -/

/-- An update of a reader is known by what it makes of that reader as it stands. -/
theorem State.onReader_congr {s : State} {r : ReaderId} {f g : Reader → Reader} (h : f (s.rd r) = g (s.rd r)) :
    s.onReader r f = s.onReader r g := by
  cases r
  · exact congrArg (fun x => { s with readerA := x }) h
  · exact congrArg (fun x => { s with readerB := x }) h

/-! ## SPLM (R92) -/

/-- A SPLM that a free link takes answers what its handler answers. -/
theorem answers_splm {tag : Byte} {r : ReaderId} {picture : BitVec 32} {s e : State} {payload : List Byte}
    (free : s.link.reply = none) (h : takeSplm r picture s = { state := e, payload := payload }) :
    Answers (.splm tag (readerCode r) picture) 0x0B tag s e payload :=
  answers_of_judge (q := .splm (readerCode r) picture) rfl free nofun rfl ((judgeRequest_of_reader rfl rfl).trans h)

/-- The third test of SPLM on a due frame in its range: the start frame judges an ARMED reader, the frame count any other. -/
theorem spliceLate_iff {armed : Prop} [Decidable armed] {due : Int} {start count : Nat} (hdue : 0 ≤ due) :
    (if armed then due.toNat < start else due.toNat ≤ count) ↔ (armed ∧ due < start) ∨ (¬ armed ∧ due ≤ count) := by
  rw [ite_prop_iff_or, Int.toNat_lt hdue, Int.toNat_le]

/-- The fourth test of SPLM on a due frame in its range. -/
theorem spliceScheduled_iff {t : List SpliceEntry} {due : Int} (hdue : 0 ≤ due) :
    (t.any fun x => x.due == due.toNat) = true ↔ ∃ x ∈ t, (x.due : Int) = due := by
  simp only [List.any_eq_true, beq_iff_eq]
  exact exists_congr fun x => and_congr_right fun _ => by omega

/-- SPLM with none of its refusals places the splice and shows the number of entries that the schedule then holds. -/
theorem answer_insertSplice (r : ReaderId) (s : State) (x : SpliceEntry) (fields : List Byte) :
    let s1 := s.onReader r fun rd => { rd with schedule := insertSplice rd.schedule x }
    answer s1 .ok (fields ++ [BitVec.ofNat 8 (s1.rd r).schedule.length]) =
      { state := s.onReader r fun rd => { rd with schedule := insertSplice (s.rd r).schedule x }
        payload := 0x00 :: (fields ++ [BitVec.ofNat 8 ((s.rd r).schedule.length + 1)]) } := by
  intro s1
  have hs : s1 = s.onReader r fun rd => { rd with schedule := insertSplice (s.rd r).schedule x } := State.onReader_congr rfl
  have hlen : (insertSplice (s.rd r).schedule x).length = (s.rd r).schedule.length + 1 := (insertSplice_perm _ x).length_eq
  rw [hs, State.rd_onReader_self, hlen]
  rfl

/-- Settles O21: each refusal is a branch of the handler, and what is left is the placing of the splice. -/
theorem splmSchedulesSplice : Obligations.SplmSchedulesSplice := by
  unfold Obligations.SplmSchedulesSplice
  intro tag r picture s free rd due refused
  split_ifs with hstopped hvalue hlate htwice hfull
  · exact answers_splm free (if_pos hstopped)
  · exact answers_splm free (by rw [takeSplm, if_neg hstopped, if_pos hvalue]; rfl)
  all_goals
    have hdue : 0 ≤ due := by omega
    rw [← spliceLate_iff hdue] at hlate
  · exact answers_splm free (by rw [takeSplm, if_neg hstopped, if_neg hvalue, if_pos hlate]; rfl)
  · exact answers_splm free
      (by rw [takeSplm, if_neg hstopped, if_neg hvalue, if_neg hlate, if_pos ((spliceScheduled_iff hdue).mpr htwice)]; rfl)
  all_goals have hunscheduled := (spliceScheduled_iff hdue).not.mpr htwice
  · exact answers_splm free
      (by rw [takeSplm, if_neg hstopped, if_neg hvalue, if_neg hlate, if_neg hunscheduled, if_pos hfull]; rfl)
  · refine ⟨_, insertSplice_perm _ _, insertSplice_sorted fun x hx hxd => htwice ⟨x, hx, ?_⟩, answers_splm free ?_⟩
    · rw [hxd, Int.toNat_of_nonneg hdue]
    · rw [takeSplm, if_neg hstopped, if_neg hvalue, if_neg hlate, if_neg hunscheduled, if_neg hfull, answer_insertSplice]

/-! ## EXCA (R102) -/

/-- An EXCA that a free link takes answers what its handler answers. -/
theorem answers_exca {tag : Byte} {r : ReaderId} {first last : BitVec 32} {s e : State} {payload : List Byte}
    (free : s.link.reply = none) (h : takeExca r first last s = { state := e, payload := payload }) :
    Answers (.exca tag (readerCode r) first last) 0x0E tag s e payload :=
  answers_of_judge (q := .exca (readerCode r) first last) rfl free nofun rfl ((judgeRequest_of_reader rfl rfl).trans h)

/-- The third test of EXCA: the start frame judges an ARMED reader, the frame count any other. -/
theorem rangeLate_iff {armed : Prop} [Decidable armed] {last start count : Nat} :
    last < (if armed then start else count) ↔ (armed ∧ last < start) ∨ (¬ armed ∧ last < count) := by
  rw [← ite_prop_iff_or]
  split <;> rfl

/-- The fourth test of EXCA. -/
theorem rangeOverlaps_iff {t : List FrameRange} {first last : Nat} :
    (t.any fun x => x.first ≤ last && first ≤ x.last) = true ↔ ∃ x ∈ t, x.first ≤ last ∧ first ≤ x.last := by
  simp only [List.any_eq_true, Bool.and_eq_true, decide_eq_true_iff]

/-- EXCA with none of its refusals places the range and shows the number of ranges that the list then holds. -/
theorem answer_insertRange (r : ReaderId) (s : State) (x : FrameRange) :
    let s1 := s.onReader r fun rd => { rd with exclusions := insertRange rd.exclusions x }
    answer s1 .ok [BitVec.ofNat 8 (s1.rd r).exclusions.length] =
      { state := s.onReader r fun rd => { rd with exclusions := insertRange (s.rd r).exclusions x }
        payload := [0x00, BitVec.ofNat 8 ((s.rd r).exclusions.length + 1)] } := by
  intro s1
  have hs : s1 = s.onReader r fun rd => { rd with exclusions := insertRange (s.rd r).exclusions x } :=
    State.onReader_congr rfl
  have hlen : (insertRange (s.rd r).exclusions x).length = (s.rd r).exclusions.length + 1 := (insertRange_perm _ x).length_eq
  rw [hs, State.rd_onReader_self, hlen]
  rfl

/-- Settles O23: each refusal is a branch of the handler, and what is left is the placing of the range. -/
theorem excaAddsRange : Obligations.ExcaAddsRange := by
  unfold Obligations.ExcaAddsRange
  intro tag r first last s free rd refused
  split_ifs with hstopped hvalue hlate hoverlap hfull
  · exact answers_exca free (if_pos hstopped)
  · exact answers_exca free (by rw [takeExca, if_neg hstopped, if_pos hvalue]; rfl)
  all_goals rw [← rangeLate_iff] at hlate
  · exact answers_exca free (by rw [takeExca, if_neg hstopped, if_neg hvalue, if_pos hlate]; rfl)
  · exact answers_exca free
      (by rw [takeExca, if_neg hstopped, if_neg hvalue, if_neg hlate, if_pos (rangeOverlaps_iff.mpr hoverlap)]; rfl)
  all_goals have hapart := rangeOverlaps_iff.not.mpr hoverlap
  · exact answers_exca free
      (by rw [takeExca, if_neg hstopped, if_neg hvalue, if_neg hlate, if_neg hapart, if_pos hfull]; rfl)
  · refine ⟨_, insertRange_perm _ _, insertRange_apart (not_lt.mp hvalue) fun x hx hshared => ?_, answers_exca free ?_⟩
    · exact hoverlap ⟨x, hx, hshared⟩
    · rw [takeExca, if_neg hstopped, if_neg hvalue, if_neg hlate, if_neg hapart, if_neg hfull, answer_insertRange]

end Sys2Proof.Machine
end

section
/-! The requests that read the hum canceller (R122) and the part's identity (R184). -/

namespace Sys2Proof.Machine

/-! ## HUMR (R122) -/

/-- The fields of one slot in the order of R122: its configuration, its phase and increment, then its state on each lane. -/
theorem humSlotBytes_eq (rd : Reader) (i : Fin 12) :
    humSlotBytes rd i =
      [boolCode rd.active.hum[i].enabled, rd.active.hum[i].source.code, BitVec.ofNat 8 rd.active.hum[i].order] ++
      le 4 rd.active.hum[i].fixedInc ++ BitVec.ofNat 8 rd.active.hum[i].shift ::
      (le 4 rd.hum.slots[i].delta.toNat ++ le 4 rd.hum.slots[i].theta.toNat ++ rd.lane0.hum[i].bytes ++ rd.lane1.hum[i].bytes) := by
  simp only [humSlotBytes, List.cons_append, List.nil_append]

/-- HUMR changes nothing and carries the reader's own fields, M and Fn before the twelve slots. -/
theorem takeHumr_eq (r : ReaderId) (s : State) :
    takeHumr r s =
      { state := s
        payload := 0x00 :: (le 4 (s.rd r).monitor.smoothed ++
          [BitVec.ofNat 8 (s.rd r).active.monitorPeriod, BitVec.ofNat 8 (s.rd r).hum.periodCounter,
            boolCode (s.rd r).hum.humFault, BitVec.ofNat 8 (s.rd r).active.mains] ++
          le 2 (s.rd r).active.nominalRate ++ (List.finRange 12).flatMap (humSlotBytes (s.rd r))) } := by
  simp only [takeHumr, answer, Status.code, List.append_assoc, List.cons_append, List.nil_append]

/-! ## IDNT (R184) -/

/-- IDNT changes nothing; of its sixteen bytes the link rate alone depends on the state. -/
theorem takeIdnt_eq (s : State) :
    takeIdnt s =
      { state := s
        payload := [0x00, 0x40, 0x03, 1, boolCode s.link.rate, 0x00, 0x04, 32, 16, 8, 64, 56, 0x40, 0x01, 12, 83] } := by
  have hpart : le 2 0x0340 = [0x40, 0x03] := by decide
  have hwindow : le 2 1024 = [0x00, 0x04] := by decide
  have hcapture : le 2 320 = [0x40, 0x01] := by decide
  rw [takeIdnt, hpart, hwindow, hcapture]
  rfl

/-- Settles O28: a free link takes either request and answers the fields of its handler, which leaves the state as it is. -/
theorem humrAndIdntReturnTheirItems : Obligations.HumrAndIdntReturnTheirItems := by
  unfold Obligations.HumrAndIdntReturnTheirItems
  constructor
  · intro tag r s free rd p flag lane
    refine answers_of_judge (q := .humr (readerCode r)) rfl free nofun rfl ?_
    rw [judgeRequest_of_reader rfl rfl]
    exact (takeHumr_eq r s).trans (by rw [funext (humSlotBytes_eq (s.rd r))]; rfl)
  · intro tag s free
    refine answers_of_judge (q := .idnt) rfl free nofun rfl ?_
    rw [judgeRequest_of_part rfl rfl]
    exact takeIdnt_eq s

end Sys2Proof.Machine
end

section
/-! The request that reads a parameter set by the role of its slot (R142). -/

namespace Sys2Proof.Machine

/-! ## Role numbers (R142) -/

/-- The role numbers run from 0 to 3. -/
theorem roleOf_eq_none {b : Byte} (h : 3 < b.toNat) : roleOf b = none := by
  have hne (n : Byte) (hn : n.toNat ≤ 3) : b ≠ n := fun heq => absurd hn (by rw [← heq]; omega)
  rw [roleOf, if_neg (hne 0 (by decide)), if_neg (hne 1 (by decide)), if_neg (hne 2 (by decide)), if_neg (hne 3 (by decide))]

@[simp] theorem roleOf_code (role : Role) : roleOf role.code = some role := by
  cases role <;> rfl

/-! ## The slot that holds a role (R137) -/

/-- A slot that is found to hold a role has that role. -/
theorem Params.role_of_holder {p : Params} {role : Role} {i : SlotId} (h : p.holder role = some i) :
    (p.slot i).role = role := by
  unfold Params.holder at h
  split_ifs at h with h0 h1 h2
  all_goals
    cases h
    assumption

theorem Params.holder_eq_none_iff {p : Params} {role : Role} :
    p.holder role = none ↔ ∀ i : SlotId, (p.slot i).role ≠ role := by
  constructor
  · intro hnone i hi
    unfold Params.holder at hnone
    split_ifs at hnone with h0 h1 h2
    cases i
    · exact h0 hi
    · exact h1 hi
    · exact h2 hi
  · intro hfree
    exact (if_neg (hfree .slot0)).trans <| (if_neg (hfree .slot1)).trans <| if_neg (hfree .slot2)

/-- The one slot with a role is the slot that holds it. -/
theorem Params.holder_eq_some {p : Params} {role : Role} {i : SlotId} (hi : (p.slot i).role = role)
    (hone : ∀ j : SlotId, (p.slot j).role = role → j = i) : p.holder role = some i := by
  cases hj : p.holder role with
  | none => exact absurd hi (Params.holder_eq_none_iff.mp hj i)
  | some j => exact congrArg some (hone j (Params.role_of_holder hj))

/-! ## SETR (R142) -/

/-- A SETR that a free link takes answers what its handler answers. -/
theorem answers_setr {tag number : Byte} {r : ReaderId} {s e : State} {payload : List Byte}
    (free : s.link.reply = none) (h : takeSetr r number s = { state := e, payload := payload }) :
    Answers (.setr tag (readerCode r) number) 0x06 tag s e payload :=
  answers_of_judge (q := .setr (readerCode r) number) rfl free nofun rfl ((judgeRequest_of_reader rfl rfl).trans h)

theorem takeSetr_of_not_role {r : ReaderId} {number : Byte} {s : State} (h : roleOf number = none) :
    takeSetr r number s = { state := s, payload := [0x1A] } := by
  rw [takeSetr, h]
  rfl

theorem takeSetr_of_no_holder {r : ReaderId} {role : Role} {s : State} (h : (s.rd r).params.holder role = none) :
    takeSetr r role.code s = { state := s, payload := [0x18] } := by
  simp only [takeSetr, roleOf_code, h]
  rfl

theorem takeSetr_of_holder {r : ReaderId} {role : Role} {s : State} {i : SlotId}
    (h : (s.rd r).params.holder role = some i) :
    takeSetr r role.code s =
      { state := s
        payload := 0x00 :: i.code :: fieldIds.flatMap fun id => leInt 4 (((s.rd r).params.slot i).set.get id) } := by
  simp only [takeSetr, roleOf_code, h]
  rfl

/-- Settles O18: a number names no role, a role that no slot holds, or a role that one slot holds. -/
theorem setrReturnsSetOfRole : Obligations.SetrReturnsSetOfRole := by
  unfold Obligations.SetrReturnsSetOfRole
  intro tag r number s free
  refine ⟨fun habove => answers_setr free (takeSetr_of_not_role (roleOf_eq_none habove)), ?_⟩
  rintro role rfl
  constructor
  · intro hunheld
    exact answers_setr free (takeSetr_of_no_holder (Params.holder_eq_none_iff.mpr hunheld))
  · intro i hi hone
    exact answers_setr free (takeSetr_of_holder (Params.holder_eq_some hi hone))

end Sys2Proof.Machine
end

section
/-! The request that reads the capture slot's copy (R167). -/

namespace Sys2Proof.Machine

/-! ## Lane numbers (R167) -/

/-- The lane numbers are 0 and 1. -/
theorem laneOf_eq_none {b : Byte} (h : 1 < b.toNat) : laneOf b = none := by
  have hne (n : Byte) (hn : n.toNat ≤ 1) : b ≠ n := fun heq => absurd hn (by rw [← heq]; omega)
  rw [laneOf, if_neg (hne 0 (by decide)), if_neg (hne 1 (by decide))]

@[simp] theorem laneOf_code (l : Lane) : laneOf (laneCode l) = some l := by
  cases l <;> rfl

theorem exists_laneCode_eq {b : Byte} (h : b.toNat ≤ 1) : ∃ l : Lane, laneCode l = b := by
  rcases Nat.le_one_iff_eq_zero_or_eq_one.mp h with h0 | h1
  · exact ⟨.lane0, BitVec.eq_of_toNat_eq h0.symm⟩
  · exact ⟨.lane1, BitVec.eq_of_toNat_eq h1.symm⟩

/-! ## The lanes of a capture (R167, R181) -/

/-- Bit 0 of the lanes captured stands for lane 0, and bit 1 for lane 1. -/
theorem Descriptor.hasLane_iff (d : Descriptor) (l : Lane) :
    d.hasLane l = true ↔ ¬ d.lanes / ((laneCode l).toNat + 1) % 2 = 0 := by
  refine Iff.trans ?_ Nat.mod_two_ne_zero.symm
  cases l with
  | lane0 =>
    have hwhole : d.lanes / ((laneCode .lane0).toNat + 1) = d.lanes := Nat.div_one d.lanes
    rw [hwhole]
    exact beq_iff_eq
  | lane1 => exact beq_iff_eq

theorem Capture.copy_eq (c : Capture) (l : Lane) : c.copy l = if laneCode l = 0 then c.copy0 else c.copy1 := by
  cases l <;> rfl

/-! ## CAPR (R167) -/

/-- A CAPR that a free link takes answers what its handler answers. -/
theorem answers_capr {tag lane : Byte} {r : ReaderId} {offset count : BitVec 16} {s e : State} {payload : List Byte}
    (free : s.link.reply = none) (h : takeCapr r lane offset count s = { state := e, payload := payload }) :
    Answers (.capr tag (readerCode r) lane offset count) 0x12 tag s e payload :=
  answers_of_judge (q := .capr (readerCode r) lane offset count) rfl free nofun rfl
    ((judgeRequest_of_reader rfl rfl).trans h)

theorem takeCapr_of_not_lane {r : ReaderId} {lane : Byte} {offset count : BitVec 16} {s : State}
    (hheld : (s.rd r).capture.state = .held) (h : laneOf lane = none) :
    takeCapr r lane offset count s = { state := s, payload := [0x1A] } := by
  rw [takeCapr, if_neg (not_not.mpr hheld), h]
  rfl

/-- The tests of CAPR that follow that of the lane's number, and the samples of that lane from the offset on. -/
theorem takeCapr_laneCode {r : ReaderId} {l : Lane} {offset count : BitVec 16} {s : State}
    (hheld : (s.rd r).capture.state = .held) :
    takeCapr r (laneCode l) offset count s =
      let c := (s.rd r).capture
      if count.toNat = 0 ∨ 320 < count.toNat ∨ c.descriptor.count < offset.toNat + count.toNat then
        { state := s, payload := [0x1A] }
      else if c.descriptor.hasLane l then
        { state := s
          payload := 0x00 :: (c.descriptor.bytes ++ laneCode l :: (bytes16 offset ++ bytes16 count ++
            (((c.copy l).drop offset.toNat).take count.toNat).flatMap sampleBytes)) }
      else { state := s, payload := [0x18] } := by
  rw [takeCapr, if_neg (not_not.mpr hheld), laneOf_code]
  rfl

/-- Settles O25: a slot that is not HELD and a number that is no lane are refused; for a lane's number the tests that are
left are those of the handler, one by one. -/
theorem caprReadsCapturedSamples : Obligations.CaprReadsCapturedSamples := by
  unfold Obligations.CaprReadsCapturedSamples
  intro tag r lane offset count s free c d replies
  by_cases hheld : c.state = .held
  case neg =>
    rw [if_pos hheld]
    exact answers_capr free (if_pos hheld)
  rw [if_neg (not_not.mpr hheld)]
  rcases Nat.lt_or_ge 1 lane.toNat with habove | hlane
  · rw [if_pos (.inl habove)]
    exact answers_capr free (takeCapr_of_not_lane hheld (laneOf_eq_none habove))
  obtain ⟨l, rfl⟩ := exists_laneCode_eq hlane
  have htake := takeCapr_laneCode (l := l) (offset := offset) (count := count) hheld
  rw [← Capture.copy_eq]
  split_ifs with hvalue hout
  all_goals rw [or_iff_right (not_lt.mpr hlane)] at hvalue
  · exact answers_capr free (htake.trans (if_pos hvalue))
  · have hnot : ¬ d.hasLane l = true := fun h => (d.hasLane_iff l).mp h hout
    exact answers_capr free (htake.trans ((if_neg hvalue).trans (if_neg hnot)))
  · have hcaptured : d.hasLane l = true := (d.hasLane_iff l).mpr hout
    exact answers_capr free (htake.trans ((if_neg hvalue).trans (if_pos hcaptured)))

end Sys2Proof.Machine
end

section
/-! What a command is made of: a chain of changes, each of one reader, the queue, the link or the pins, and the arbiter's
choice at its end. The statements about every command follow from one lemma for each kind of change. -/

namespace Sys2Proof.Machine

open Relation (ReflTransGen)

/-! ## The changes that a command can bring -/

/-- How a request changes the reader that it names, as that reader stands; the start point and STOP are changes of their own. -/
inductive RequestAct (rd : Reader) : (Reader → Reader) → Prop
  /-- STRT with option AT-FRAME (R7) -/
  | arm (mode : LaneMode) (startFrame : BitVec 32) (h : rd.state = .stopped) :
      RequestAct rd fun x => { x.recordStart mode startFrame.toNat with state := .armed }
  /-- BYPS ON (R12) -/
  | enterBypass (h : rd.state = .running) : RequestAct rd Reader.enterBypass
  /-- BYPS OFF (R13) -/
  | leaveBypass (h : rd.state = .bypassed) : RequestAct rd Reader.leaveBypass
  /-- SETW (R141) -/
  | write (ws : List FieldWrite) (h : ∀ w ∈ ws, writeValid w = true) :
      RequestAct rd fun x => { x with params := x.params.writeEdit ws }
  /-- SETC (R144, R145) -/
  | commit (edit third : SlotId) (he : rd.params.holder .edit = some edit) (ht : rd.params.third = some third) :
      RequestAct rd fun x => { x with params := x.params.commit edit third }
  /-- HOLD and RELS (R148) -/
  | hold (flag : Bool) : RequestAct rd fun x => { x with params := { x.params with hold := flag } }
  /-- SYNC (R149) -/
  | sync (h : (rd.params.holder .staged).isSome = true) :
      RequestAct rd fun x => { x with params := { x.params with syncPending := true } }
  /-- SPLM (R92) -/
  | splice (y : SpliceEntry) (hs : rd.state ≠ .stopped) (hnew : ∀ z ∈ rd.schedule, z.due ≠ y.due)
      (hlen : rd.schedule.length < 16) : RequestAct rd fun x => { x with schedule := insertSplice x.schedule y }
  /-- SPLC (R94) -/
  | unsplice (p : SpliceEntry → Bool) : RequestAct rd fun x => { x with schedule := x.schedule.filter p }
  /-- EXCA (R102) -/
  | range (y : FrameRange) (hs : rd.state ≠ .stopped) (hy : y.first ≤ y.last)
      (hnew : ∀ z ∈ rd.exclusions, ¬ (z.first ≤ y.last ∧ y.first ≤ z.last)) (hlen : rd.exclusions.length < 8) :
      RequestAct rd fun x => { x with exclusions := insertRange x.exclusions y }
  /-- EXCR (R103) -/
  | unrange (p : FrameRange → Bool) : RequestAct rd fun x => { x with exclusions := x.exclusions.filter p }
  /-- CAPA (R164) -/
  | armCapture (q : Qualifier) :
      RequestAct rd fun x => { x with capture := { x.capture with state := .armed, qualifier := q } }
  /-- CAPX (R168) -/
  | freeCapture : RequestAct rd fun x => { x with capture := { x.capture with state := .disarmed, missed := false } }
  /-- WTCH (R170) -/
  | arms (w : Watch) : RequestAct rd fun x => { x with watch := w }
  /-- WTCD (R171) -/
  | disarms : RequestAct rd fun x => { x with watch := { x.watch with armed := false } }
  /-- STAT (R172) -/
  | clearUnrecorded : RequestAct rd fun x => { x with unrecorded := 0 }

/-- What an event of a reader makes of the part. The rows of events that the part brings about act when they are due. -/
inductive ReaderEvent (r : ReaderId) (s : State) : State → Prop
  | entry (x0 x1 : Sample) (first : Lane) : ReaderEvent r s (entryEvent r x0 x1 first s)
  | pulse : ReaderEvent r s (realPulse r s)
  | loseClock : ReaderEvent r s (loseClock r s)
  | regainClock : ReaderEvent r s (regainClock r s)
  | laneStuck (h : (s.rd r).stuckDue = true) : ReaderEvent r s (lanesBecomeStuck r s)
  | holdover (h : (s.rd r).holdoverDue = true) : ReaderEvent r s (holdoverEntry r s)
  | tick (h : (s.rd r).tickDue = true) : ReaderEvent r s (virtualTick r s)
  | runClose (l : Lane) (h : (s.rd r).judgementsAct = true) (hd : (s.rd r).closeDue l = true) :
      ReaderEvent r s (runCloses r l s)
  | saturationEnd (l : Lane) (h : (s.rd r).judgementsAct = true) (hd : (s.rd r).saturationDue l = true) :
      ReaderEvent r s (endSaturation r l s)
  | postContext (h : (s.rd r).eventsAct = true) : ReaderEvent r s (commitDue r (fun n d => d.dueComplete n) s)
  | cut (h : (s.rd r).eventsAct = true) : ReaderEvent r s (commitDue r (fun n d => d.dueCut n) s)
  | deadline (h : (s.rd r).eventsAct = true) : ReaderEvent r s (deadlinePasses r s)
  | spliceClose (h : (s.rd r).eventsAct = true) : ReaderEvent r s (s.onReader r Reader.closeSplices)
  | entryRemoval (h : (s.rd r).eventsAct = true) : ReaderEvent r s (s.onReader r Reader.removeLeft)
  | periodEnd (h : (s.rd r).periodDue = true) : ReaderEvent r s (endPeriod r (s.rd r).monitor.lastEvent s)
  | hissBlock (l : Lane) (h : (s.rd r).hissBlockDue l = true) : ReaderEvent r s (s.onReader r (completeHissBlock l))

/-- One change of the part, on readers that who admits. -/
inductive Change (who : ReaderId → Prop) (s : State) : State → Prop
  | request (r : ReaderId) (f : Reader → Reader) (hr : who r) (h : RequestAct (s.rd r) f) :
      Change who s (s.onReader r f)
  | event (r : ReaderId) (t : State) (hr : who r) (h : ReaderEvent r s t) : Change who s t
  | start (r : ReaderId) (mode : LaneMode) (startFrame : BitVec 32) (hr : who r) (h : (s.rd r).state = .stopped) :
      Change who s (startPoint r (s.onReader r fun x => x.recordStart mode startFrame.toNat))
  | stop (r : ReaderId) (hr : who r) :
      Change who s ((s.onReader r Reader.stop).offerStuckChanges r (s.rd r) (s.rd r).index)
  | queue (f : ReportQueue → ReportQueue) (hf : s.queue.Sound → (f s.queue).Sound) : Change who s (s.onQueue f)
  | link (f : Link → Link) : Change who s (s.onLink f)
  | watches : Change who s s.evaluateWatches
  | reset (rate : Bool) (h : ∀ r, who r) : Change who s (resetPart rate s)
  | cts (level : Bool) : Change who s (setCts level s)

/-- Changes one after another. -/
abbrev Changes (who : ReaderId → Prop) : State → State → Prop := ReflTransGen (Change who)

/-! ## Requests -/

/-- The readers that a request may change: the one that it names, or both. -/
def Request.mayChange (q : Request) (k : ReaderId) : Prop := ∀ r, q.readerField.bind readerOf = some r → k = r

/-- The readers that a command may change: the one that it concerns, or both. -/
def mayChange (c : Instr) (k : ReaderId) : Prop := ∀ r, readerConcerned c = some r → k = r

theorem mayChange_of_request {c : Instr} {tag : Byte} {q : Request} (h : requestOf c = some (tag, q)) :
    mayChange c = q.mayChange := by
  cases c <;> cases h <;> rfl

@[simp] theorem answer_state (s : State) (status : Status) (fields : List Byte) : (answer s status fields).state = s := rfl

/-- A change of one reader by a request. -/
theorem changes_of_request {who : ReaderId → Prop} {s : State} {r : ReaderId} {f : Reader → Reader} (hr : who r)
    (h : RequestAct (s.rd r) f) : Changes who s (s.onReader r f) := .single (.request r f hr h)

/-- A refusal changes nothing. -/
theorem changes_unless {who : ReaderId → Prop} {s : State} {c : Prop} [Decidable c] {status : Status} {fields : List Byte}
    {a : Answer} (h : ¬ c → Changes who s a.state) : Changes who s (if c then answer s status fields else a).state := by
  split
  · exact .refl
  · exact h ‹_›

section Taken

variable {who : ReaderId → Prop} {r : ReaderId} (s : State)

theorem takeStrt_changes (hr : who r) (m o : Byte) (f : BitVec 32) : Changes who s (takeStrt r m o f s).state := by
  unfold takeStrt
  split
  case isFalse => exact .refl
  rename_i hstopped
  split
  · exact .refl
  rename_i mode _
  dsimp only
  split
  · exact .single (.start r mode f hr hstopped)
  · split
    · rw [State.onReader_onReader]
      exact changes_of_request hr (.arm mode f hstopped)
    · exact .refl

theorem takeByps_changes (hr : who r) (x : Byte) : Changes who s (takeByps r x s).state := by
  unfold takeByps
  dsimp only
  split
  · exact .refl
  · exact .refl
  · rename_i hrunning
    split
    · exact changes_of_request hr (.enterBypass hrunning)
    · split <;> exact .refl
  · rename_i hbypassed
    split
    · exact changes_of_request hr (.leaveBypass hbypassed)
    · split <;> exact .refl

theorem takeSetw_changes (hr : who r) (ws : List FieldWrite) : Changes who s (takeSetw r ws s).state := by
  unfold takeSetw
  split
  · exact .refl
  · rename_i hvalid
    have hw : ∀ w ∈ ws, writeValid w = true := by simpa using hvalid
    dsimp only
    split <;> exact changes_of_request hr (.write ws hw)

theorem takeSetr_state (x : Byte) : (takeSetr r x s).state = s := by
  unfold takeSetr
  split
  · rfl
  · split <;> rfl

theorem takeSetc_changes (hr : who r) : Changes who s (takeSetc r s).state := by
  unfold takeSetc
  dsimp only
  split
  · exact .refl
  · split
    · rename_i he ht
      exact changes_of_request hr (.commit _ _ he ht)
    · exact .refl
    · exact .refl

theorem takeMasked_changes (hall : ∀ k, who k) (mask : Byte) (acts : Reader → Bool) (f : Reader → Reader)
    (hf : ∀ rd, acts rd = true → RequestAct rd f) : Changes who s (takeMasked mask acts f s).state := by
  unfold takeMasked
  split
  case isFalse => exact .refl
  have one : ∀ (k : ReaderId) (b : Bool) (t : State), (b = true → acts (t.rd k) = true) →
      Changes who t (if b then t.onReader k f else t) := by
    intro k b t hb
    cases b
    · exact .refl
    · exact .single (.request k f (hall k) (hf _ (hb rfl)))
  refine ReflTransGen.trans (one .a _ s fun h => (Bool.and_eq_true_iff.mp h).2) (one .b _ _ fun h => ?_)
  have hb : acts (s.rd .b) = true := (Bool.and_eq_true_iff.mp h).2
  split
  · rwa [State.rd_onReader_of_ne _ _ _ _ (by decide)]
  · exact hb

theorem takeSplm_changes (hr : who r) (f : BitVec 32) : Changes who s (takeSplm r f s).state := by
  refine changes_unless fun hstopped => changes_unless fun _ => changes_unless fun _ => changes_unless fun htwice =>
    changes_unless fun hfull => ?_
  refine changes_of_request hr (.splice _ hstopped (fun y hy hd => htwice ?_) (Nat.not_le.mp hfull))
  exact List.any_eq_true.mpr ⟨y, hy, beq_iff_eq.mpr hd⟩

theorem takeSplc_changes (hr : who r) (f : BitVec 32) : Changes who s (takeSplc r f s).state := by
  unfold takeSplc
  dsimp only
  split
  · exact changes_of_request hr (.unsplice _)
  · exact .refl

theorem takeExca_changes (hr : who r) (f g : BitVec 32) : Changes who s (takeExca r f g s).state := by
  refine changes_unless fun hstopped => changes_unless fun hvalue => changes_unless fun _ => changes_unless fun hoverlap =>
    changes_unless fun hfull => ?_
  refine changes_of_request hr (.range _ hstopped (Nat.not_lt.mp hvalue) (fun y hy hd => hoverlap ?_) (Nat.not_le.mp hfull))
  exact rangeOverlaps_iff.mpr ⟨y, hy, hd⟩

theorem takeExcr_changes (hr : who r) (f : BitVec 32) : Changes who s (takeExcr r f s).state := by
  unfold takeExcr
  dsimp only
  split
  · exact changes_of_request hr (.unrange _)
  · exact .refl

theorem takeCapa_changes (hr : who r) (k : Byte) (p : BitVec 16) (m : Byte) : Changes who s (takeCapa r k p m s).state := by
  unfold takeCapa
  split
  · exact .refl
  · split
    · exact .refl
    · exact changes_of_request hr (.armCapture _)

theorem takeCapr_state (l : Byte) (o n : BitVec 16) : (takeCapr r l o n s).state = s := by
  unfold takeCapr
  dsimp only
  split
  · rfl
  · split
    · rfl
    · split
      · rfl
      · split <;> rfl

theorem takeCapx_changes (hr : who r) : Changes who s (takeCapx r s).state := by
  unfold takeCapx
  dsimp only
  split
  · exact .refl
  · exact changes_of_request hr .freeCapture

theorem takeWtch_changes (hr : who r) (m : BitVec 16) (x : Byte) : Changes who s (takeWtch r m x s).state := by
  unfold takeWtch
  split
  · exact .refl
  · exact changes_unless fun _ => changes_of_request hr (.arms _)

theorem takeWtcd_changes (hr : who r) : Changes who s (takeWtcd r s).state := by
  unfold takeWtcd
  split
  · exact changes_of_request hr .disarms
  · exact .refl

theorem takeStat_changes (hr : who r) : Changes who s (takeStat r s).state :=
  (changes_of_request (s := s) hr .clearUnrecorded).tail (.link fun k => { k with linkFault := false })

theorem takeRept_changes (x : Byte) : Changes who s (takeRept x s).state := by
  unfold takeRept
  dsimp only
  split
  · split
    · exact .refl
    · exact ReflTransGen.single (Change.queue (fun q => { q with enabled := decide (x = 1) }) id)
  · exact .refl

end Taken

/-- All that a request can do as it is judged for a reader. -/
theorem takeForReader_changes {who : ReaderId → Prop} (r : ReaderId) (q : Request) (s : State) (hr : who r)
    (hall : q.readerField = none → ∀ k, who k) : Changes who s (takeForReader r q s).state := by
  cases q with
  | strt _ m o f => exact takeStrt_changes s hr m o f
  | stop _ =>
    change Changes who s (takeStop r s).state
    unfold takeStop
    dsimp only
    split
    · exact .refl
    · exact .single (.stop r hr)
  | byps _ x => exact takeByps_changes s hr x
  | setw _ ws => exact takeSetw_changes s hr ws
  | setr _ x =>
    change Changes who s (takeSetr r x s).state
    rw [takeSetr_state]
  | setc _ => exact takeSetc_changes s hr
  | hold m => exact takeMasked_changes s (hall rfl) m _ _ fun _ _ => .hold true
  | sync m => exact takeMasked_changes s (hall rfl) m _ _ fun _ h => .sync h
  | rels m => exact takeMasked_changes s (hall rfl) m _ _ fun _ _ => .hold false
  | splm _ f => exact takeSplm_changes s hr f
  | splc _ f => exact takeSplc_changes s hr f
  | exca _ f g => exact takeExca_changes s hr f g
  | excr _ f => exact takeExcr_changes s hr f
  | capa _ k p m => exact takeCapa_changes s hr k p m
  | capr _ l o n =>
    change Changes who s (takeCapr r l o n s).state
    rw [takeCapr_state]
  | capx _ => exact takeCapx_changes s hr
  | wtch _ m x => exact takeWtch_changes s hr m x
  | wtcd _ => exact takeWtcd_changes s hr
  | stat _ => exact takeStat_changes s hr
  | rept x => exact takeRept_changes s x
  | spll _ => exact .refl
  | excl _ => exact .refl
  | humr _ => exact .refl
  | idnt => exact .refl
  | rset => exact .refl

theorem judgeRequest_changes (q : Request) (s : State) : Changes q.mayChange s (judgeRequest q s).state := by
  unfold judgeRequest
  split
  case isFalse => exact .refl
  split
  · rename_i hnone
    have hall : ∀ k, q.mayChange k := by
      intro k r h
      rw [hnone] at h
      cases h
    exact takeForReader_changes .a q s (hall _) fun _ => hall
  · rename_i b hb
    split
    · rename_i r hr
      refine takeForReader_changes r q s (fun k hk => ?_) fun hn => ?_
      · rw [hb, Option.bind_some, hr] at hk
        exact Option.some.inj hk
      · rw [hb] at hn
        cases hn
    · exact .refl

theorem becomeOutstanding_changes {who : ReaderId → Prop} {s : State} (type tag : Byte) (isRset : Bool) {a : Answer}
    (h : Changes who s a.state) : Changes who s (becomeOutstanding type tag isRset a) :=
  (h.tail (.link _)).tail .watches

theorem takeRequest_changes (tag : Byte) (q : Request) (s : State) : Changes q.mayChange s (takeRequest tag q s) :=
  becomeOutstanding_changes _ _ _ (judgeRequest_changes q s)

theorem holdFrame_changes {who : ReaderId → Prop} (f : Frame) (s : State) : Changes who s (holdFrame f s) := by
  unfold holdFrame
  split <;> exact .single (.link _)

theorem dispatchRequest_changes (tag : Byte) (q : Request) (s : State) : Changes q.mayChange s (dispatchRequest tag q s) := by
  unfold dispatchRequest
  split
  · exact takeRequest_changes tag q s
  · exact holdFrame_changes _ s

/-! ## The control link -/

/-- A change that may concern more readers. -/
theorem Change.mono {who who' : ReaderId → Prop} (hw : ∀ r, who r → who' r) {s t : State} (h : Change who s t) :
    Change who' s t := by
  cases h with
  | request r f hr h => exact .request r f (hw r hr) h
  | event r t hr h => exact .event r _ (hw r hr) h
  | start r m f hr h => exact .start r m f (hw r hr) h
  | stop r hr => exact .stop r (hw r hr)
  | queue f hf => exact .queue f hf
  | link f => exact .link f
  | watches => exact .watches
  | reset rate h => exact .reset rate fun r => hw r (h r)
  | cts level => exact .cts level

theorem Changes.mono {who who' : ReaderId → Prop} (hw : ∀ r, who r → who' r) {s t : State} (h : Changes who s t) :
    Changes who' s t := by
  induction h with
  | refl => exact .refl
  | tail _ hab ih => exact ih.tail (hab.mono hw)

theorem interByteTimeout_changes {who : ReaderId → Prop} (s : State) : Changes who s (interByteTimeout s) := by
  unfold interByteTimeout
  split
  · exact .refl
  all_goals exact (ReflTransGen.single (.link _)).tail (.link _)

/-- The head record leaves a sound queue sound (R161). -/
theorem ReportQueue.sound_tail (q : ReportQueue) (h : q.Sound) : ({ q with records := q.records.tail } : ReportQueue).Sound := by
  obtain ⟨hlen, hdfct, hheld⟩ := h
  have hsub : q.records.tail.Sublist q.records := List.tail_sublist _
  exact ⟨hsub.length_le.trans hlen, (hsub.countP_le).trans hdfct, hheld⟩

/-- The record that begins its transmission stays in a sound queue (R159). -/
theorem ReportQueue.sound_beginHead (q : ReportQueue) (h : q.Sound) : q.beginHead.Sound := by
  obtain ⟨hlen, hdfct, hheld⟩ := h
  unfold ReportQueue.beginHead
  split
  · exact ⟨hlen, hdfct, hheld⟩
  · rename_i x rest hq
    rw [hq] at hlen
    rw [ReportQueue.dfctCount, hq, List.countP_cons] at hdfct
    refine ⟨hlen, ?_, hheld⟩
    rw [ReportQueue.dfctCount, List.countP_cons]
    exact hdfct

theorem arbitrate_changes {who : ReaderId → Prop} (s : State) : Changes who s s.arbitrate := by
  unfold State.arbitrate
  split
  · exact .refl
  · exact .refl
  · split
    case isFalse => exact .refl
    split
    · exact .single (.link _)
    · split
      case isFalse => exact .refl
      split
      · exact .refl
      · exact (ReflTransGen.single (.queue _ s.queue.sound_beginHead)).tail (.link _)

section Link

variable {who : ReaderId → Prop} (hall : ∀ r, who r)
include hall

theorem takeFrame_changes (f : Frame) (s : State) : Changes who s (takeFrame f s) := by
  unfold takeFrame
  split
  · exact becomeOutstanding_changes _ _ _ .refl
  · exact becomeOutstanding_changes _ _ _ .refl
  · exact (takeRequest_changes _ _ s).mono fun r _ => hall r

theorem takePending_changes (s : State) : Changes who s (takePending s) := by
  unfold takePending
  split
  · exact ReflTransGen.head (.link _) (takeFrame_changes hall _ _)
  · exact .refl
  · exact .refl

theorem dispatchFrame_changes (f : Frame) (s : State) : Changes who s (dispatchFrame f s) := by
  unfold dispatchFrame
  split
  · exact takeFrame_changes hall f s
  · exact holdFrame_changes f s

theorem actAll_changes (es : List RxEvent) (s : State) : Changes who s (es.foldl RxEvent.act s) := by
  induction es generalizing s with
  | nil => exact .refl
  | cons e es ih =>
    refine ReflTransGen.trans ?_ (ih _)
    cases e with
    | discard => exact ReflTransGen.single (.link _ : Change who s (discardFrame s))
    | frame f => exact dispatchFrame_changes hall f s

theorem receiveByte_changes (b : Byte) (fault : Bool) (s : State) : Changes who s (receiveByte b fault s) := by
  unfold receiveByte
  split
  · split
    · exact .refl
    all_goals exact (ReflTransGen.single (.link _)).tail (.link _)
  · exact ReflTransGen.head (.link _) (actAll_changes hall _ _)

theorem messageSent_changes (s : State) : Changes who s (messageSent s) := by
  unfold messageSent
  split
  · exact .refl
  · exact ((ReflTransGen.single (.queue _ (ReportQueue.sound_tail _))).tail (.link _)).tail .watches
  · split
    · exact .single (.reset _ hall)
    · exact ReflTransGen.head (.link _) (takePending_changes hall _)

end Link

/-! ## Commands -/

/-- A row of an event that acts only where it is due. -/
theorem changes_ite {who : ReaderId → Prop} {s t : State} {c : Bool} (h : c = true → Changes who s t) :
    Changes who s (if c then t else s) := by
  split
  · exact h ‹_›
  · exact .refl

/-- What is left of a command before the arbiter chooses at its end (R160). -/
theorem exec_arbitrates (c : Instr) (s : State) : ∃ u : State, exec c s = .next u.arbitrate := by
  cases c <;> exact ⟨_, rfl⟩

/-- Every command is a chain of changes of the readers that it concerns, of the link and the queue, and ends in the arbiter's
choice; a row of an event is that event, where it is due. -/
theorem exec_changes (c : Instr) (s : State) : ∃ t, exec c s = .next t ∧ Changes (mayChange c) s t := by
  have ends : ∀ u : State, exec c s = .next u.arbitrate → Changes (mayChange c) s u → ∃ t, exec c s = .next t ∧ Changes (mayChange c) s t :=
    fun u he hu => ⟨_, he, hu.trans (arbitrate_changes u)⟩
  have asked : ∀ tag q, requestOf c = some (tag, q) → Changes (mayChange c) s (dispatchRequest tag q s) := by
    intro tag q h
    rw [mayChange_of_request h]
    exact dispatchRequest_changes tag q s
  have happens : ∀ r t, readerConcerned c = some r → ReaderEvent r s t → Changes (mayChange c) s t :=
    fun r t hc h => .single (.event r t (fun k hk => Option.some.inj (hc.symm.trans hk)) h)
  have due : ∀ r t (b : Bool), readerConcerned c = some r → (b = true → ReaderEvent r s t) →
      Changes (mayChange c) s (if b then t else s) :=
    fun r t b hc h => changes_ite fun hb => happens r t hc (h hb)
  have whole : readerConcerned c = none → ∀ r, mayChange c r := by
    intro hc r k hk
    rw [hc] at hk
    cases hk
  cases c with
  | powerOn rate => exact ends _ rfl (.single (.reset rate (whole rfl)))
  | reset rate => exact ends _ rfl (changes_ite fun _ => .single (.reset rate (whole rfl)))
  | entryEvent r x0 x1 first => exact ends _ rfl (happens r _ rfl (.entry x0 x1 first))
  | realPulse r => exact ends _ rfl (happens r _ rfl .pulse)
  | clockLost r => exact ends _ rfl (happens r _ rfl .loseClock)
  | clockBack r => exact ends _ rfl (happens r _ rfl .regainClock)
  | laneStuck r => exact ends _ rfl (due r _ _ rfl .laneStuck)
  | holdoverEntry r => exact ends _ rfl (due r _ _ rfl .holdover)
  | virtualTick r => exact ends _ rfl (due r _ _ rfl .tick)
  | freeEntry r =>
    refine ends _ rfl (due r _ _ rfl fun h => .tick ?_)
    simp only [Reader.freeDue, Bool.and_eq_true] at h
    exact h.1.1
  | runClose r l =>
    exact ends _ rfl (due r _ _ rfl fun h => .runClose l (Bool.and_eq_true_iff.mp h).1 (Bool.and_eq_true_iff.mp h).2)
  | saturationEnd r l =>
    exact ends _ rfl (due r _ _ rfl fun h => .saturationEnd l (Bool.and_eq_true_iff.mp h).1 (Bool.and_eq_true_iff.mp h).2)
  | postContextComplete r => exact ends _ rfl (due r _ _ rfl .postContext)
  | cutCommitAtB r => exact ends _ rfl (due r _ _ rfl .cut)
  | windowDeadline r => exact ends _ rfl (due r _ _ rfl .deadline)
  | spliceClose r => exact ends _ rfl (due r _ _ rfl .spliceClose)
  | entryRemoval r => exact ends _ rfl (due r _ _ rfl .entryRemoval)
  | periodEnd r => exact ends _ rfl (due r _ _ rfl .periodEnd)
  | hissBlockComplete r l => exact ends _ rfl (due r _ _ rfl (.hissBlock l))
  | receiveByte b fault => exact ends _ rfl (receiveByte_changes (whole rfl) b fault s)
  | interByteTimeout => exact ends _ rfl (interByteTimeout_changes s)
  | pendingRequestTaken => exact ends _ rfl (takePending_changes (whole rfl) s)
  | ctsAsserted level => exact ends _ rfl (.single (.cts level))
  | messageSent => exact ends _ rfl (messageSent_changes (whole rfl) s)
  | _ => exact ends _ rfl (asked _ _ rfl)

/-- What every change keeps, every step keeps. -/
theorem step_keeps {P : State → Prop} (hpending : ∀ s q, P s → P { s with pending := q })
    (hchange : ∀ s t, P s → Change (fun _ => True) s t → P t) {s t : State} (hs : P s) (h : step s = .next t) : P t := by
  unfold step at h
  split at h
  · cases h
    exact hs
  · rename_i c rest _
    obtain ⟨u, hu, hchain⟩ := exec_changes c { s with pending := rest }
    cases hu.symm.trans h
    have hwide := hchain.mono (who' := fun _ => True) fun _ _ => trivial
    clear hchain h hu
    induction hwide with
    | refl => exact hpending s rest hs
    | tail _ hab ih => exact hchange _ _ ih hab

/-! ## What an event leaves alone -/

theorem ReaderEvent.within {r : ReaderId} {s t : State} (h : ReaderEvent r s t) : Within r s t := by
  cases h with
  | entry x0 x1 first => exact entryEvent_within r x0 x1 first s
  | pulse => exact realPulse_within r s
  | loseClock => exact loseClock_within r s
  | regainClock => exact regainClock_within r s
  | laneStuck => exact lanesBecomeStuck_within r s
  | holdover => exact holdoverEntry_within r s
  | tick => exact virtualTick_within r s
  | runClose l => exact runCloses_within r l s
  | saturationEnd l => exact onDetector_within s r l _
  | postContext => exact commitDue_within r _ s
  | cut => exact commitDue_within r _ s
  | deadline => exact deadlinePasses_within r s
  | spliceClose => exact within_onReader s r _
  | entryRemoval => exact within_onReader s r _
  | periodEnd => exact endPeriod_within r _ s
  | hissBlock l => exact within_onReader s r _

theorem startChange_within (r : ReaderId) (f : Reader → Reader) (s : State) : Within r s (startPoint r (s.onReader r f)) :=
  (within_onReader s r f).trans (startPoint_within r _)

theorem stopChange_within (r : ReaderId) (s : State) :
    Within r s ((s.onReader r Reader.stop).offerStuckChanges r (s.rd r) (s.rd r).index) :=
  (within_onReader s r _).trans (offerStuckChanges_within _ r _ _)

/-- No change touches the commands that wait. -/
theorem Change.pending {who : ReaderId → Prop} {s t : State} (h : Change who s t) : t.pending = s.pending := by
  cases h with
  | request r f => exact State.onReader_pending s r f
  | event r t _ h => exact h.within.pending
  | start r _ _ => exact (startChange_within r _ s).pending
  | stop r => exact (stopChange_within r s).pending
  | queue | link | cts => rfl
  | watches => exact s.evaluateWatches_settles.1.pending
  | reset rate => rfl

/-- Every change keeps the queue within its places (R157). -/
theorem Change.queue_sound {who : ReaderId → Prop} {s t : State} (h : Change who s t) (hs : s.queue.Sound) : t.queue.Sound := by
  cases h with
  | request r f => rwa [State.onReader_queue]
  | event r t _ h => exact h.within.sound hs
  | start r _ _ => exact (startChange_within r _ s).sound hs
  | stop r => exact (stopChange_within r s).sound hs
  | queue f hf => exact hf hs
  | link | cts => exact hs
  | watches => exact (evaluateWatches_within s .a).sound hs
  | reset rate => exact ⟨Nat.zero_le _, Nat.zero_le _, rfl⟩

/-- A change of the reader r leaves the other reader, but for whether its watch is armed (R1). -/
theorem Change.calm_other {r : ReaderId} {s t : State} (h : Change (fun k => k = r) s t) :
    (t.rd (otherReader r)).calm = (s.rd (otherReader r)).calm := by
  cases h with
  | request k f hk =>
    cases hk
    exact (within_onReader s r f).other
  | event k t hk h =>
    cases hk
    exact h.within.other
  | start k _ _ hk =>
    cases hk
    exact (startChange_within r _ s).other
  | stop k hk =>
    cases hk
    exact (stopChange_within r s).other
  | queue f => rw [State.rd_onQueue]
  | link f => rw [State.rd_onLink]
  | watches => exact (evaluateWatches_within s r).other
  | reset rate h => exact absurd (h (otherReader r)) (otherReader_ne r)
  | cts => cases r <;> rfl

/-! ## The machine -/

/-- Settles O1: both clauses are branches of the step. -/
theorem stepExecutesFrontCommand : Obligations.StepExecutesFrontCommand := by
  unfold Obligations.StepExecutesFrontCommand
  refine ⟨fun _ _ _ => rfl, fun s h => ?_⟩
  rw [step, h]

/-- Settles O2: a command is a chain of changes, and none of them touches the commands that wait. -/
theorem everyCommandCompletesInEveryState : Obligations.EveryCommandCompletesInEveryState := by
  unfold Obligations.EveryCommandCompletesInEveryState
  intro c s
  obtain ⟨t, ht, hchain⟩ := exec_changes c s
  refine ⟨t, ht, ?_⟩
  clear ht
  induction hchain with
  | refl => rfl
  | tail _ hab ih => exact hab.pending.trans ih

/-- Settles O3: every change that the command is made of is a change of the reader that it concerns. -/
theorem commandForOneReaderLeavesTheOther : Obligations.CommandForOneReaderLeavesTheOther := by
  unfold Obligations.CommandForOneReaderLeavesTheOther
  intro c r s t hc ht
  obtain ⟨u, hu, hchain⟩ := exec_changes c s
  cases hu.symm.trans ht
  have hone := hchain.mono (who' := fun k => k = r) fun k hk => hk r hc
  clear hchain ht hu
  induction hone with
  | refl => rfl
  | tail _ hab ih => exact hab.calm_other.trans ih

/-- A free transmitter that CTS lets send finds, after the arbiter's choice, nothing to choose (R160). -/
theorem State.arbitrate_idle {s : State} (hidle : s.arbitrate.link.transmitter = .idle) (hcts : s.arbitrate.cts = true) :
    s.arbitrate.link.reply = none ∧ (s.arbitrate.queue.enabled = false ∨ s.arbitrate.queue.records = []) := by
  cases htx : s.link.transmitter with
  | reply bytes => simp [State.arbitrate, htx] at hidle
  | report bytes => simp [State.arbitrate, htx] at hidle
  | idle =>
    cases hc : s.cts with
    | false => simp [State.arbitrate, htx, hc] at hcts
    | true =>
      cases hrep : s.link.reply with
      | some rep => simp [State.arbitrate, htx, hc, hrep] at hidle
      | none =>
        cases hen : s.queue.enabled with
        | false => simp [State.arbitrate, htx, hc, hrep, hen]
        | true =>
          cases hq : s.queue.records with
          | nil => simp [State.arbitrate, htx, hc, hrep, hen, ReportQueue.beginHead, hq]
          | cons x rest => simp [State.arbitrate, htx, hc, hrep, hen, ReportQueue.beginHead, hq] at hidle

/-- Settles O4: every command ends in the arbiter's choice. -/
theorem freeTransmitterHasNothingToSend : Obligations.FreeTransmitterHasNothingToSend := by
  unfold Obligations.FreeTransmitterHasNothingToSend
  intro c s t ht hidle hcts
  obtain ⟨u, hu⟩ := exec_arbitrates c s
  cases hu.symm.trans ht
  exact State.arbitrate_idle hidle hcts

/-- Settles O7: a step is a chain of changes, and each keeps the queue within its places. -/
theorem everyStepKeepsQueueWithinItsPlaces : Obligations.EveryStepKeepsQueueWithinItsPlaces := by
  unfold Obligations.EveryStepKeepsQueueWithinItsPlaces
  intro s t hs ht
  exact step_keeps (P := fun s => s.queue.Sound) (fun _ _ h => h) (fun _ _ h hc => hc.queue_sound h) hs ht

end Sys2Proof.Machine
end

section
/-! The resets (R22, R185), the arbiter's table (R160), and the arithmetic of the envelope (R43) and of the hiss filter (R131). -/

namespace Sys2Proof.Machine

/-! ## The resets (R22, R185) -/

/-- A part at its reset values has nothing to send. -/
theorem resetPart_arbitrate (rate : Bool) (s : State) : (resetPart rate s).arbitrate = resetPart rate s := by
  cases hc : s.cts <;> simp [resetPart, State.arbitrate, Link.reset, State.reset, ReportQueue.reset, ReportQueue.beginHead, hc]

/-- The end of the RSET reply resets the part. -/
theorem Link.resetAwaits_of_reply {k : Link} {bytes : List Byte} {rep : Reply} (htx : k.transmitter = .reply bytes)
    (hrep : k.reply = some rep) : k.resetAwaits = rep.isRset := by
  simp [Link.resetAwaits, htx, hrep]

/-- Settles O5: each of the three rows is resetPart, at the level of the strap that it samples. -/
theorem resetsRestoreEveryBlock : Obligations.ResetsRestoreEveryBlock := by
  unfold Obligations.ResetsRestoreEveryBlock
  intro rate s whole
  refine ⟨congrArg Host.Outcome.next (resetPart_arbitrate rate s), fun bytes rep htx hrep hrset => ?_⟩
  have hawaits : s.link.resetAwaits = true := (Link.resetAwaits_of_reply htx hrep).trans hrset
  constructor
  · change Host.Outcome.next _ = _
    rw [if_pos hawaits, resetPart_arbitrate]
    rfl
  · change Host.Outcome.next (messageSent s).arbitrate = _
    unfold messageSent
    simp only [htx, hawaits, if_true]
    rw [resetPart_arbitrate]
    rfl

/-- Every field of the default set lies in its range (R138). -/
theorem ParamSet.default_inRange : ParamSet.default.inRange = true := by decide +kernel

theorem LaneState.reset_humSound : LaneState.reset.HumSound := by
  intro i
  have hi : LaneState.reset.hum[i] = HumLaneSlot.reset := Vector.getElem_replicate i.isLt
  rw [hi]
  simp [HumLaneSlot.Sound, HumLaneSlot.reset, HumStatus.active]

/-- Settles O6: the reset values of each block lie within their limits. -/
theorem resetStateIsSound : Obligations.ResetStateIsSound := by
  unfold Obligations.ResetStateIsSound
  refine ⟨⟨Nat.zero_le _, Nat.zero_le _, rfl⟩, ?stores, ?params, ?hum, ?lists, ?idle, ?detectors, ?hiss, ?counts⟩
  case stores =>
    have h : Reader.reset.StoresSound :=
      ⟨List.length_replicate, List.length_replicate, List.length_replicate, List.length_replicate, Nat.zero_le _⟩
    exact ⟨h, h⟩
  case params =>
    have h : Params.reset.RolesSound ∧ Params.reset.FieldsSound :=
      ⟨by simp [Params.RolesSound, Params.roles, Params.reset],
        ParamSet.default_inRange, ParamSet.default_inRange, ParamSet.default_inRange⟩
    exact ⟨h, h⟩
  case hum => exact ⟨⟨LaneState.reset_humSound, LaneState.reset_humSound⟩, ⟨LaneState.reset_humSound, LaneState.reset_humSound⟩⟩
  case lists =>
    have h : Reader.reset.ListsSound := by simp [Reader.ListsSound, Reader.reset]
    exact ⟨h, h⟩
  case idle =>
    have h : Reader.reset.IdleSound := by simp [Reader.IdleSound, Reader.reset, Monitor.reset]
    exact ⟨h, h⟩
  case detectors =>
    have h : Detector.reset.Sound := by simp [Detector.Sound, Detector.reset]
    exact ⟨⟨h, h⟩, ⟨h, h⟩⟩
  case hiss =>
    have h : Hiss.reset.Sound ParamSet.default := by simp [Hiss.Sound, Hiss.reset, ParamSet.default]
    exact ⟨⟨h, h⟩, ⟨h, h⟩⟩
  case counts =>
    have hpos : 0 < 2 ^ 32 := Nat.two_pow_pos 32
    have h : Reader.reset.CountsSound :=
      ⟨hpos, hpos, Nat.zero_le _, Nat.zero_le _, Nat.zero_le _, hpos, Nat.le_refl 1, Nat.one_lt_two_pow (by decide),
        Nat.zero_le _, Nat.zero_le _⟩
    exact ⟨h, h⟩

/-! ## The arbiter (R159, R160) -/

theorem State.arbitrate_of_reply {s : State} {rep : Reply} (hidle : s.link.transmitter = .idle) (hcts : s.cts = true)
    (hrep : s.link.reply = some rep) :
    s.arbitrate = s.onLink fun k => { k with transmitter := .reply (frameBytes rep.type rep.tag rep.payload) } := by
  simp [State.arbitrate, hidle, hcts, hrep]

theorem State.arbitrate_of_none {s : State} (hrep : s.link.reply = none)
    (hq : s.queue.enabled = false ∨ s.queue.records = []) : s.arbitrate = s := by
  rcases hq with hq | hq <;> simp [State.arbitrate, hrep, hq, ReportQueue.beginHead] <;> split <;> rfl

theorem State.arbitrate_of_record {s : State} {x : Record} {rest : List Record} (hidle : s.link.transmitter = .idle)
    (hcts : s.cts = true) (hrep : s.link.reply = none) (hen : s.queue.enabled = true) (hq : s.queue.records = x :: rest) :
    s.arbitrate =
      (s.onQueue fun q => { q with records := { x with lost := s.queue.lost } :: rest, lost := false }).onLink fun k =>
        { k with transmitter := .report (Record.frame { x with lost := s.queue.lost }) } := by
  simp [State.arbitrate, hidle, hcts, hrep, hen, hq, ReportQueue.beginHead, State.onQueue]

theorem State.arbitrate_of_negated {s : State} (hcts : s.cts = false) : s.arbitrate = s := by
  simp only [State.arbitrate, hcts]
  split <;> rfl

/-- Settles O60: row by row, the arbiter's choice on the state with the pin at its level. -/
theorem arbiterChoosesByItsTable : Obligations.ArbiterChoosesByItsTable := by
  unfold Obligations.ArbiterChoosesByItsTable
  intro level s hidle
  refine ⟨(setCts level s).arbitrate, rfl, ?_, ?_, ?_⟩
  · exact (State.arbitrate_settles _).1.cts
  · rintro rfl
    exact State.arbitrate_of_negated rfl
  · rintro rfl
    refine ⟨fun rep hrep => ?_, fun hrep hq => ?_, fun x rest hrep hen hq => ?_⟩
    · exact State.arbitrate_of_reply (s := setCts true s) hidle rfl hrep
    · exact State.arbitrate_of_none (s := setCts true s) hrep hq
    · rw [State.arbitrate_of_record (s := setCts true s) hidle rfl hrep hen hq]
      exact ⟨rfl, rfl, rfl, rfl⟩

/-! ## A share of a distance, rounded down (R43, R131) -/

/-- A share of a distance that is not negative is no more than the distance. -/
theorem share_of_nonneg {d c m : Int} (hd : 0 ≤ d) (hc : 0 ≤ c) (hcm : c ≤ m) (hm : 0 < m) : 0 ≤ d * c / m ∧ d * c / m ≤ d := by
  constructor
  · exact Int.ediv_nonneg (mul_nonneg hd hc) hm.le
  · exact Int.ediv_le_of_le_mul hm (mul_le_mul_of_nonneg_left hcm hd)

/-- A share of a distance that is not positive is no less than the distance. -/
theorem share_of_nonpos {d c m : Int} (hd : d ≤ 0) (hc : 0 ≤ c) (hcm : c ≤ m) (hm : 0 < m) : d ≤ d * c / m ∧ d * c / m ≤ 0 := by
  constructor
  · rw [Int.le_ediv_iff_mul_le hm]
    exact mul_le_mul_of_nonpos_left hcm hd
  · exact Int.ediv_nonpos_of_nonpos_of_neg (mul_nonpos_of_nonpos_of_nonneg hd hc) hm

/-! ## The envelope (R43) -/

/-- The second difference of three samples (R42) is at most 33 554 430. -/
theorem Detector.difference_le (d : Detector) (x : Sample) : d.difference x ≤ 33554430 := by
  unfold Detector.difference
  have hx := x.le_toInt
  have hx' := x.toInt_lt
  have h1 := d.prev1.le_toInt
  have h1' := d.prev1.toInt_lt
  have h2 := d.prev2.le_toInt
  have h2' := d.prev2.toInt_lt
  omega

theorem envelopeAfter_eq (rate envelope mag : Nat) :
    (envelopeAfter rate envelope mag : Int) = max 16 ((envelope : Int) + ((mag : Int) - envelope) / 2 ^ rate) := by
  unfold envelopeAfter divPow2
  omega

/-- From a quiet side the envelope falls towards the difference, from a loud one it rises, and it passes it by neither way. -/
theorem envelopeAfter_between (rate : Nat) {envelope mag : Nat} (h16 : 16 ≤ envelope) :
    (mag ≤ envelope → envelopeAfter rate envelope mag ≤ envelope ∧ mag ≤ envelopeAfter rate envelope mag) ∧
      (envelope ≤ mag → envelope ≤ envelopeAfter rate envelope mag ∧ envelopeAfter rate envelope mag ≤ mag) := by
  have heq := envelopeAfter_eq rate envelope mag
  have hpow : (1 : Int) ≤ 2 ^ rate := one_le_pow₀ (by norm_num)
  constructor
  · intro hle
    have := share_of_nonpos (d := (mag : Int) - envelope) (c := 1) (m := 2 ^ rate) (by omega) (by omega) hpow (by omega)
    rw [mul_one] at this
    omega
  · intro hle
    have := share_of_nonneg (d := (mag : Int) - envelope) (c := 1) (m := 2 ^ rate) (by omega) (by omega) hpow (by omega)
    rw [mul_one] at this
    omega

/-- The envelope stays within 16 and 2^25. -/
theorem envelopeAfter_bounds (rate : Nat) {envelope mag : Nat} (h16 : 16 ≤ envelope) (h25 : envelope ≤ 2 ^ 25)
    (hmag : mag ≤ 33554430) : 16 ≤ envelopeAfter rate envelope mag ∧ envelopeAfter rate envelope mag ≤ 2 ^ 25 := by
  obtain ⟨hfall, hrise⟩ := envelopeAfter_between rate (mag := mag) h16
  refine ⟨le_max_left _ _, ?_⟩
  rcases Nat.le_total mag envelope with h | h
  · exact (hfall h).1.trans h25
  · exact (hrise h).2.trans (by omega)

/-- Settles O53: E moves by a share of the distance, so it lies between E and |d|. -/
theorem envelopeMovesTowardsTheDifference : Obligations.EnvelopeMovesTowardsTheDifference := by
  unfold Obligations.EnvelopeMovesTowardsTheDifference
  intro rate envelope d x h16 h25 mag after
  obtain ⟨hfall, hrise⟩ := envelopeAfter_between rate (mag := mag) h16
  have hmag : mag ≤ 33554430 := d.difference_le x
  obtain ⟨hlo, hhi⟩ := envelopeAfter_bounds rate h16 h25 hmag
  exact ⟨envelopeAfter_eq rate envelope mag, hmag, hlo, hhi, hfall, hrise⟩

/-! ## The hiss filter (R129 to R132) -/

/-- The new state lies between the old one and the residual, and is the residual at step 31 (R131). -/
theorem hissFilter_spec {step : Nat} (y e : Sample) (hstep : step ≤ 31) :
    (hissFilter step y e).toInt = y.toInt + (e.toInt - y.toInt) * (2048 * ((step : Int) + 1)) / 2 ^ 16 ∧
      min y.toInt e.toInt ≤ (hissFilter step y e).toInt ∧ (hissFilter step y e).toInt ≤ max y.toInt e.toInt ∧
      (step = 31 → hissFilter step y e = e) := by
  have hbetween : min y.toInt e.toInt ≤ y.toInt + (e.toInt - y.toInt) * (2048 * ((step : Int) + 1)) / 2 ^ 16 ∧
      y.toInt + (e.toInt - y.toInt) * (2048 * ((step : Int) + 1)) / 2 ^ 16 ≤ max y.toInt e.toInt := by
    rcases Int.le_total y.toInt e.toInt with h | h
    · have := share_of_nonneg (d := e.toInt - y.toInt) (c := 2048 * ((step : Int) + 1)) (m := 2 ^ 16)
        (by omega) (by omega) (by omega) (by omega)
      omega
    · have := share_of_nonpos (d := e.toInt - y.toInt) (c := 2048 * ((step : Int) + 1)) (m := 2 ^ 16)
        (by omega) (by omega) (by omega) (by omega)
      omega
  have hvalue : (hissFilter step y e).toInt = y.toInt + (e.toInt - y.toInt) * (2048 * ((step : Int) + 1)) / 2 ^ 16 :=
    sampleOf_toInt_between ⟨y.le_toInt, Int.le_of_lt_add_one y.toInt_lt⟩ ⟨e.le_toInt, Int.le_of_lt_add_one e.toInt_lt⟩ hbetween
  rw [hvalue]
  refine ⟨rfl, hbetween.1, hbetween.2, fun h31 => BitVec.eq_of_toInt_eq ?_⟩
  rw [hvalue, h31]
  omega

/-- What a block that completes leaves of the state y and of the previous residual. -/
theorem Hiss.process_of_enabled (h : Hiss) (p : ParamSet) (e : Sample) (hp : p.hissEnable = true) :
    (h.process p e).y = hissFilter h.step h.y e ∧ (h.process p e).prev = e ∧
    (h.blockCount + 1 < 64 → (h.process p e).step = h.step ∧ (h.process p e).blockSum = h.blockSum + highBand e h.prev ∧
      (h.process p e).blockCount = h.blockCount + 1) ∧
    (64 ≤ h.blockCount + 1 → (h.process p e).blockSum = 0 ∧ (h.process p e).blockCount = 0 ∧
      (h.process p e).step = stepAfter p h.step ((h.blockSum + highBand e h.prev) / 64)) := by
  by_cases hdue : 64 ≤ h.blockCount + 1
  · have heq : h.process p e = (h.take e).completeBlock p := by simp [Hiss.process, hp, Hiss.blockDue, Hiss.take, hdue]
    rw [heq]
    exact ⟨rfl, rfl, fun hlt => absurd hlt (by omega), fun _ => ⟨rfl, rfl, rfl⟩⟩
  · have heq : h.process p e = h.take e := by simp [Hiss.process, hp, Hiss.blockDue, Hiss.take, hdue]
    rw [heq]
    exact ⟨rfl, rfl, fun _ => ⟨rfl, rfl, rfl⟩, fun hle => absurd hle hdue⟩

theorem Hiss.process_of_disabled (h : Hiss) (p : ParamSet) (e : Sample) (hp : p.hissEnable = false) :
    h.process p e = { h with y := e, prev := e } := by
  simp [Hiss.process, hp]

end Sys2Proof.Machine
end

section
/-! The requests of the reader core (R7 to R13), of the lists (R94, R95, R103), of the capture slot (R164, R168), and the
requests that read and those of the queue (R162, R172, R178, R179, R185). -/

namespace Sys2Proof.Machine

/-! ## What the end of a command may do, with reports before it -/

theorem ends_offer (s : State) (r : ReaderId) (b : ReportBody) : Ends s (s.offer r b) := by
  constructor <;> simp [State.offer, State.onQueue, ReportQueue.offer_flags]

/-- A reply that is outstanding on both sides. -/
theorem Ends.replied {s t : State} (h : Ends s t) (code tag : Byte) (payload : List Byte) :
    Ends (s.replied code tag payload) (t.replied code tag payload) :=
  ⟨h.readerA, h.readerB, h.armedA, h.armedB, h.receiver, h.pendingRequest, rfl, h.linkFault, h.rate, h.busy, h.enabled,
    h.placeHeld, h.cts, h.ratePin, h.pending⟩

/-- Reports are told by the queues of the states alone. -/
theorem Reports.of_queue {s s' t t' : State} {xs : List (ReaderId × ReportBody)} (h : Reports s t xs)
    (hs : s'.queue = s.queue) (ht : t'.queue = t.queue) : Reports s' t' xs := by
  obtain ⟨alerts, hbodies, halrt⟩ := h
  exact ⟨alerts, by rw [hs, ht, hbodies], halrt⟩

/-- An offer reports what it offers, where the queue keeps it. -/
theorem reports_offer (s : State) (r : ReaderId) (b : ReportBody) : Reports s (s.offer r b) (s.kept (r, b)) :=
  ⟨[], by simp [State.bodies_offer], by simp⟩

/-- What the queue keeps of a report depends on the queue alone. -/
theorem State.kept_congr {s t : State} (h : t.queue = s.queue) (x : ReaderId × ReportBody) : t.kept x = s.kept x := by
  simp [State.kept, h]

/-- A request of a reader that a free link takes answers what its handler answers. -/
theorem answers_of_reader {c : Instr} {tag : Byte} {q : Request} {r : ReaderId} {s e : State} {payload : List Byte}
    (hc : exec c s = .next (dispatchRequest tag q s).arbitrate) (free : s.link.reply = none) (hq : q ≠ .rset)
    (ht : replyType q.code = q.code + 0x80) (hl : q.lengthOk = true) (hb : q.readerField = some (readerCode r))
    (h : takeForReader r q s = { state := e, payload := payload }) : Answers c q.code tag s e payload :=
  answers_of_judge hc free hq ht ((judgeRequest_of_reader hl hb).trans h)

/-! ## STRT (R7, R8) -/

section Strt

variable {tag mode : Byte} {r : ReaderId} {startFrame : BitVec 32} {s e : State} {payload : List Byte}

theorem answers_strtImmediate (free : s.link.reply = none)
    (h : takeStrt r mode 0 startFrame s = { state := e, payload := payload }) :
    Answers (.strtImmediate tag (readerCode r) mode startFrame) 0x02 tag s e payload :=
  answers_of_reader (q := .strt (readerCode r) mode 0 startFrame) rfl free nofun rfl rfl rfl h

theorem answers_strtAtFrame (free : s.link.reply = none)
    (h : takeStrt r mode 1 startFrame s = { state := e, payload := payload }) :
    Answers (.strtAtFrame tag (readerCode r) mode startFrame) 0x02 tag s e payload :=
  answers_of_reader (q := .strt (readerCode r) mode 1 startFrame) rfl free nofun rfl rfl rfl h

theorem takeStrt_of_started {option : Byte} (h : (s.rd r).state ≠ .stopped) :
    takeStrt r mode option startFrame s = { state := s, payload := [0x13] } := by
  rw [takeStrt, if_neg h]
  rfl

theorem takeStrt_of_not_mode {option : Byte} (h : (s.rd r).state = .stopped) (hmode : laneModeOf mode = none) :
    takeStrt r mode option startFrame s = { state := s, payload := [0x1A] } := by
  rw [takeStrt, if_pos h, hmode]
  rfl

end Strt

@[simp] theorem laneModeOf_code (mode : LaneMode) : laneModeOf mode.code = some mode := by
  cases mode <;> rfl

/-- The lane modes are 0 and 1. -/
theorem laneModeOf_eq_none {b : Byte} (h : 1 < b.toNat) : laneModeOf b = none := by
  have hne (n : Byte) (hn : n.toNat ≤ 1) : b ≠ n := fun heq => absurd hn (by rw [← heq]; omega)
  rw [laneModeOf, if_neg (hne 0 (by decide)), if_neg (hne 1 (by decide))]

/-- Settles O13: STRT with option AT-FRAME arms a STOPPED reader; the refusals are the branches of the handler. -/
theorem strtAtFrameArmsReader : Obligations.StrtAtFrameArmsReader := by
  unfold Obligations.StrtAtFrameArmsReader
  constructor
  · intro tag r mode startFrame s free hstopped
    refine answers_strtAtFrame free ?_
    rw [takeStrt, if_pos hstopped, laneModeOf_code]
    simp only [State.onReader_onReader]
    rfl
  · intro tag r mode startFrame s free
    refine ⟨fun h => ?_, fun h hmode => ?_⟩
    · exact ⟨answers_strtImmediate free (takeStrt_of_started h), answers_strtAtFrame free (takeStrt_of_started h)⟩
    · have hnone := laneModeOf_eq_none hmode
      exact ⟨answers_strtImmediate free (takeStrt_of_not_mode h hnone), answers_strtAtFrame free (takeStrt_of_not_mode h hnone)⟩

/-- The start point changes its reader and offers the APLD report of a rotation, and the watches are evaluated (R8, R151). -/
theorem startPoint_ends (r : ReaderId) (s : State) : Ends (s.onReader r Reader.startPoint) (startPoint r s) := by
  unfold startPoint
  dsimp only
  refine Ends.trans ?_ (State.evaluateWatches_settles _).1
  split
  · exact ends_offer _ r _
  · exact Ends.refl _

theorem startPoint_reports (r : ReaderId) (s : State) :
    Reports s (startPoint r s) (if ((s.rd r).params.holder .staged).isSome
      then s.kept (r, .apld .start false (s.rd r).params.rotate.activeSlot (s.rd r).pendingStart 0) else []) := by
  unfold startPoint
  dsimp only
  refine Reports.trans ?_ (State.evaluateWatches_settles _).2
  split
  · have hq : (s.onReader r Reader.startPoint).queue = s.queue := State.onReader_queue s r _
    rw [← State.kept_congr hq, State.rd_onReader_self]
    exact (reports_offer _ r _).of_queue hq.symm rfl
  · exact (Reports.refl s).of_queue rfl (State.onReader_queue s r _)

/-- Settles O12: IMMEDIATE records mode and start frame and takes the start point, whose values the statement writes out. -/
theorem strtImmediateStartsReader : Obligations.StrtImmediateStartsReader := by
  unfold Obligations.StrtImmediateStartsReader
  intro tag r mode startFrame s free hstopped
  let recorded := s.onReader r fun x => x.recordStart mode startFrame.toNat
  have htake : takeStrt r mode.code 0 startFrame s = { state := startPoint r recorded, payload := [0x00] } := by
    rw [takeStrt, if_pos hstopped, laneModeOf_code]
    rfl
  obtain ⟨t, ht, hends, hreports⟩ := answers_strtImmediate (tag := tag) free htake
  refine ⟨t, ht, ?_, ?_⟩
  · refine Ends.trans ?_ hends
    have hstart : Ends (recorded.onReader r Reader.startPoint) (startPoint r recorded) := startPoint_ends r recorded
    refine Ends.trans ?_ (hstart.replied 0x02 tag [0x00])
    rw [State.onReader_onReader]
    refine (congrArg (fun e : State => Ends (e.replied 0x02 tag [0x00]) _) (State.onReader_congr ?_)).mpr (Ends.refl _)
    simp [Reader.startPoint, Reader.startHum, Reader.recordStart, Reader.onLanes, LaneState.start, Detector.start, Hiss.start,
      Monitor.start, HumLaneSlot.cleared, startStatus, outOfBand, Reader.active]
  · have hrec : recorded.rd r = (s.rd r).recordStart mode startFrame.toNat := State.rd_onReader_self s r _
    have hq : recorded.queue = s.queue := State.onReader_queue s r _
    have h := (startPoint_reports r recorded).of_queue (s' := s) hq.symm rfl
    rw [hrec, State.kept_congr hq] at h
    exact (h.of_queue rfl rfl).trans (hreports.of_queue rfl rfl)

/-! ## STOP (R10) -/

theorem offerLane_ends (s : State) (r : ReaderId) (cause : LaneCause) (l0 l1 : Bool) (index : Nat) :
    Ends s (s.offerLane r cause l0 l1 index) := by
  unfold State.offerLane
  dsimp only
  split
  · exact ends_offer s r _
  · exact Ends.refl s

theorem offerStuckChanges_ends (s : State) (r : ReaderId) (old : Reader) (index : Nat) :
    Ends s (s.offerStuckChanges r old index) :=
  (offerLane_ends s r _ _ _ _).trans (offerLane_ends _ r _ _ _ _)

/-- A LANE report that names no lane is not offered. -/
theorem State.offerLane_none (s : State) (r : ReaderId) (cause : LaneCause) (index : Nat) :
    s.offerLane r cause false false index = s := rfl

/-- Settles O14: STOP is one change of the reader, and no lane is STUCK behind it, so UNSTUCK alone is reported. -/
theorem stopEndsRun : Obligations.StopEndsRun := by
  unfold Obligations.StopEndsRun
  intro tag r s free rd
  have answers {e : State} {payload : List Byte} (h : takeStop r s = { state := e, payload := payload }) :
      Answers (.stop tag (readerCode r)) 0x03 tag s e payload :=
    answers_of_reader (q := .stop (readerCode r)) rfl free nofun rfl rfl rfl h
  refine ⟨fun hstopped => answers (if_pos hstopped), fun hgoing => ?_⟩
  have htake : takeStop r s =
      { state := (s.onReader r Reader.stop).offerStuckChanges r rd rd.index
        payload := 0x00 :: BitVec.ofNat 8 rd.uncommittedCount :: (le 4 rd.monitor.frameCount ++ le 6 rd.index) } := if_neg hgoing
  obtain ⟨t, ht, hends, hreports⟩ := answers htake
  refine ⟨t, ht, ?_, ?_⟩
  · refine Ends.trans ?_ hends
    refine Ends.trans ?_ ((offerStuckChanges_ends _ r rd rd.index).replied _ _ _)
    refine (congrArg (fun e : State => Ends (e.replied 0x03 tag _) _) (State.onReader_congr ?_)).mpr (Ends.refl _)
    cases hc : (s.rd r).capture.state <;>
      simp [Reader.stop, Reader.onLanes, LaneState.stop, LaneState.stopHum, Detector.idle, Capture.stop, Monitor.stop, hc]
  · refine Reports.trans ?_ (hreports.of_queue rfl rfl)
    have hstop : (s.onReader r Reader.stop).rd r = rd.stop := State.rd_onReader_self s r _
    have hq : (s.onReader r Reader.stop).queue = s.queue := State.onReader_queue s r _
    have hfirst : (s.onReader r Reader.stop).offerStuckChanges r rd rd.index =
        (s.onReader r Reader.stop).offerLane r .unstuck rd.lane0.stuck rd.lane1.stuck rd.index := by
      simp [State.offerStuckChanges, hstop, Reader.stop, Reader.onLanes, LaneState.stop, State.offerLane_none]
    rw [hfirst]
    unfold State.offerLane
    dsimp only
    rw [hstop]
    split
    · rw [← State.kept_congr hq]
      exact (reports_offer _ r _).of_queue hq.symm rfl
    · exact (Reports.refl s).of_queue rfl hq

/-! ## BYPS (R11 to R13) -/

theorem answers_bypsOn {tag : Byte} {r : ReaderId} {s e : State} {payload : List Byte} (free : s.link.reply = none)
    (h : takeByps r 1 s = { state := e, payload := payload }) : Answers (.bypsOn tag (readerCode r)) 0x04 tag s e payload :=
  answers_of_reader (q := .byps (readerCode r) 1) rfl free nofun rfl rfl rfl h

theorem answers_bypsOff {tag : Byte} {r : ReaderId} {s e : State} {payload : List Byte} (free : s.link.reply = none)
    (h : takeByps r 0 s = { state := e, payload := payload }) : Answers (.bypsOff tag (readerCode r)) 0x04 tag s e payload :=
  answers_of_reader (q := .byps (readerCode r) 0) rfl free nofun rfl rfl rfl h

theorem takeByps_before_start {r : ReaderId} {setting : Byte} {s : State}
    (h : (s.rd r).state = .stopped ∨ (s.rd r).state = .armed) :
    takeByps r setting s = { state := s, payload := [0x13, 0] } := by
  rcases h with h | h <;> simp only [takeByps, h] <;> rfl

/-- Settles O15: each reader state is a branch of the handler for either setting. -/
theorem bypsEntersAndLeavesBypass : Obligations.BypsEntersAndLeavesBypass := by
  unfold Obligations.BypsEntersAndLeavesBypass
  constructor
  · intro tag r s free
    refine ⟨fun h => answers_bypsOn free ?_, fun h => answers_bypsOn free ?_, fun h => answers_bypsOn free (takeByps_before_start h)⟩
    · simp only [takeByps, h, if_true]
      refine congrArg₂ Answer.mk (State.onReader_congr ?_) rfl
      simp only [Reader.enterBypass, Reader.onLanes, Detector.idle, Defect.uncommitted, bne, Bool.not_not]
    · simp only [takeByps, h]
      rfl
  · intro tag r s free
    refine ⟨fun h => answers_bypsOff free ?_, fun h => answers_bypsOff free ?_,
      fun h => answers_bypsOff free (takeByps_before_start h)⟩
    · simp only [takeByps, h]
      rfl
    · simp only [takeByps, h]
      rfl

/-! ## SPLC, SPLL, EXCR and EXCL (R94, R95, R103) -/

theorem takeSplc_of_mem {r : ReaderId} {due : BitVec 32} {s : State} (h : ∃ x ∈ (s.rd r).schedule, x.due = due.toNat) :
    takeSplc r due s =
      { state := s.onReader r fun x => { x with schedule := (s.rd r).schedule.filter fun y => y.due != due.toNat }
        payload := [0x00, BitVec.ofNat 8 ((s.rd r).schedule.filter fun y => y.due != due.toNat).length] } := by
  refine (if_pos (by simpa using h)).trans (congrArg₂ Answer.mk (State.onReader_congr rfl) ?_)
  rw [State.rd_onReader_self]
  rfl

theorem takeExcr_of_mem {r : ReaderId} {first : BitVec 32} {s : State} (h : ∃ x ∈ (s.rd r).exclusions, x.first = first.toNat) :
    takeExcr r first s =
      { state := s.onReader r fun x => { x with exclusions := (s.rd r).exclusions.filter fun y => y.first != first.toNat }
        payload := [0x00, BitVec.ofNat 8 ((s.rd r).exclusions.filter fun y => y.first != first.toNat).length] } := by
  refine (if_pos (by simpa using h)).trans (congrArg₂ Answer.mk (State.onReader_congr rfl) ?_)
  rw [State.rd_onReader_self]
  rfl

/-- Settles O22: SPLC and EXCR find their frame or do not; SPLL and EXCL read. -/
theorem splcAndExcrRemoveAndSpllAndExclList : Obligations.SplcAndExcrRemoveAndSpllAndExclList := by
  unfold Obligations.SplcAndExcrRemoveAndSpllAndExclList
  refine ⟨fun tag r due s free => ⟨fun h => ?_, fun h => ?_⟩, fun tag r s free => ?_, fun tag r first s free =>
    ⟨fun h => ?_, fun h => ?_, ?_⟩⟩
  · exact answers_of_reader (q := .splc (readerCode r) due) rfl free nofun rfl rfl rfl (takeSplc_of_mem h)
  · exact answers_of_reader (q := .splc (readerCode r) due) rfl free nofun rfl rfl rfl (if_neg (by simpa using h))
  · exact answers_of_reader (q := .spll (readerCode r)) rfl free nofun rfl rfl rfl rfl
  · exact answers_of_reader (q := .excr (readerCode r) first) rfl free nofun rfl rfl rfl (takeExcr_of_mem h)
  · exact answers_of_reader (q := .excr (readerCode r) first) rfl free nofun rfl rfl rfl (if_neg (by simpa using h))
  · exact answers_of_reader (q := .excl (readerCode r)) rfl free nofun rfl rfl rfl rfl

/-! ## CAPA and CAPX (R164, R168) -/

/-- The masks that R164 defines are 1, 2 and 3. -/
theorem mask_defined_iff (b : Byte) : (b = 1 ∨ b = 2 ∨ b = 3) ↔ ¬ (b.toNat = 0 ∨ 3 < b.toNat) := by
  simp only [BitVec.toNat_eq]
  have := b.isLt
  change b.toNat = 1 ∨ b.toNat = 2 ∨ b.toNat = 3 ↔ _
  omega

theorem qualifierOf_eq (kinds : Byte) (minPeak : BitVec 16) (lanes : Byte) :
    qualifierOf kinds minPeak lanes =
      if kinds.toNat = 0 ∨ 3 < kinds.toNat ∨ lanes.toNat = 0 ∨ 3 < lanes.toNat then none
      else some { clicks := kinds.getLsbD 0, splices := kinds.getLsbD 1, minPeak := minPeak.toNat
                  lane0 := lanes.getLsbD 0, lane1 := lanes.getLsbD 1 } := by
  have hmasks : ((kinds = 1 ∨ kinds = 2 ∨ kinds = 3) ∧ (lanes = 1 ∨ lanes = 2 ∨ lanes = 3)) ↔
      ¬ (kinds.toNat = 0 ∨ 3 < kinds.toNat ∨ lanes.toNat = 0 ∨ 3 < lanes.toNat) := by
    rw [mask_defined_iff, mask_defined_iff, ← not_or, or_assoc]
  rw [qualifierOf, if_congr hmasks rfl rfl, ite_not]

/-- Settles O24: CAPA and CAPX by the slot's state, and CAPA by its masks. -/
theorem capaArmsAndCapxReleasesCaptureSlot : Obligations.CapaArmsAndCapxReleasesCaptureSlot := by
  unfold Obligations.CapaArmsAndCapxReleasesCaptureSlot
  constructor
  · intro tag r kinds minPeak lanes s free
    have answers {e : State} {payload : List Byte} (h : takeCapa r kinds minPeak lanes s = { state := e, payload := payload }) :
        Answers (.capa tag (readerCode r) kinds minPeak lanes) 0x11 tag s e payload :=
      answers_of_reader (q := .capa (readerCode r) kinds minPeak lanes) rfl free nofun rfl rfl rfl h
    split_ifs with hheld hmask
    · exact answers (if_pos hheld)
    · exact answers (by rw [takeCapa, if_neg hheld, qualifierOf_eq, if_pos hmask]; rfl)
    · exact answers (by rw [takeCapa, if_neg hheld, qualifierOf_eq, if_neg hmask]; rfl)
  · intro tag r s free
    have answers {e : State} {payload : List Byte} (h : takeCapx r s = { state := e, payload := payload }) :
        Answers (.capx tag (readerCode r)) 0x13 tag s e payload :=
      answers_of_reader (q := .capx (readerCode r)) rfl free nofun rfl rfl rfl h
    split_ifs with hheld hmissed
    · exact answers (by rw [takeCapx, if_neg (not_not.mpr hheld), hmissed]; rfl)
    · exact answers (by rw [takeCapx, if_neg (not_not.mpr hheld), Bool.eq_false_iff.mpr hmissed]; rfl)
    · exact answers (if_pos hheld)

/-! ## STAT (R172) -/

/-- The lane conditions as the number that their bits give. -/
theorem laneConditions_eq (a b c : Bool) :
    laneConditions a b c = (if a then 1 else 0 : Byte) + 2 * (if b then 1 else 0) + 4 * (if c then 1 else 0) := by
  cases a <;> cases b <;> cases c <;> rfl

theorem Params.flags_eq (p : Params) :
    p.flags = (if p.hold then 1 else 0 : Byte) + 2 * (if p.syncPending then 1 else 0) := by
  unfold Params.flags
  cases p.hold <;> cases p.syncPending <;> rfl

/-- Settles O27: the items of R172 are the handler's, with its flag bytes as numbers. -/
theorem statReturnsAndClears : Obligations.StatReturnsAndClears := by
  unfold Obligations.StatReturnsAndClears
  intro tag r s free rd m flag
  refine answers_of_reader (q := .stat (readerCode r)) rfl free nofun rfl rfl rfl ?_
  refine congrArg₂ Answer.mk rfl (congrArg (0x00 :: ·) ?_)
  simp only [statFields, laneConditions_eq, Params.flags_eq, List.append_assoc, List.cons_append, List.nil_append]
  rfl

/-! ## REPT, RSET, and requests that wait (R162, R178, R179, R185) -/

/-- A request that finds a reply outstanding is held, or discarded where one is held already (R178). -/
theorem exec_of_request {c : Instr} {tag : Byte} {q : Request} (h : requestOf c = some (tag, q)) (s : State) :
    exec c s = .next (dispatchRequest tag q s).arbitrate := by
  cases c <;> cases h <;> rfl

/-- The reader field of a request that names no reader (R1). -/
theorem readerOf_eq_none {b : Byte} (h : 1 < b.toNat) : readerOf b = none := by
  have hne (n : Byte) (hn : n.toNat ≤ 1) : b ≠ n := fun heq => absurd hn (by rw [← heq]; omega)
  rw [readerOf, if_neg (hne 0 (by decide)), if_neg (hne 1 (by decide))]

/-- The reply to a request has the request's code with bit 7 set (R180). -/
theorem replyType_code (q : Request) : replyType q.code = q.code + 0x80 := by
  cases q <;> rfl

theorem takeRept_on_off (on : Bool) (s : State) :
    takeRept (if on then 1 else 0) s =
      { state := s.onQueue fun q => { q with enabled := on }
        payload := (if s.queue.enabled = on then 0x03 else 0x00) ::
          [BitVec.ofNat 8 s.queue.records.length, BitVec.ofNat 8 s.queue.dfctCount] } := by
  have hdefined : (if on then 1 else 0 : Byte) = 0 ∨ (if on then 1 else 0 : Byte) = 1 := by cases on <;> decide
  have hsetting : decide ((if on then 1 else 0 : Byte) = 1) = on := by cases on <;> rfl
  rw [takeRept]
  simp only [if_pos hdefined, hsetting]
  split
  · rename_i hon
    subst hon
    rfl
  · rfl

theorem judgeRequest_of_no_reader {q : Request} {s : State} {b : Byte} (hl : q.lengthOk = true) (hb : q.readerField = some b)
    (h : 1 < b.toNat) : judgeRequest q s = { state := s, payload := [0x12] } := by
  simp only [judgeRequest, hl, hb, readerOf_eq_none h, if_true]
  rfl

/-- Settles O29: a request row is the arrival of its frame, which is taken, held or discarded (R178). -/
theorem reptAndRsetActAndOtherRequestsWait : Obligations.ReptAndRsetActAndOtherRequestsWait := by
  unfold Obligations.ReptAndRsetActAndOtherRequestsWait
  refine ⟨?rept, ?rset, ?waits, ?unnamed⟩
  case rept =>
    intro tag on s free counts
    have hjudge := (judgeRequest_of_part (s := s) (q := .rept (if on then 1 else 0)) rfl rfl).trans (takeRept_on_off on s)
    refine answers_of_judge (q := .rept (if on then 1 else 0)) ?_ free nofun rfl hjudge
    cases on <;> rfl
  case rset =>
    intro tag s free
    apply completes_of_watches
    rw [exec_of_request (tag := tag) (q := .rset) rfl, dispatchRequest_of_free tag .rset free]
    rfl
  case waits =>
    intro c tag q rep s hc hrep
    constructor
    · intro hnone
      apply completes_of_arbitrate
      simp only [exec_of_request hc, dispatchRequest, hrep, holdFrame, hnone]
      rfl
    · intro f hf
      apply completes_of_arbitrate
      simp only [exec_of_request hc, dispatchRequest, hrep, holdFrame, hf]
      rfl
  case unnamed =>
    intro c tag q b s hc hb hbad hl free
    refine answers_of_judge (exec_of_request hc s) free ?_ (replyType_code q) (judgeRequest_of_no_reader hl hb hbad)
    rintro rfl
    cases hb

end Sys2Proof.Machine
end

section
/-! The requests of the parameter sets (R140 to R149) and of the alert watch (R170, R171). -/

namespace Sys2Proof.Machine

/-! ## SETW (R140, R141) -/

theorem Params.writeEdit_of_holder {p : Params} {edit : SlotId} (h : p.holder .edit = some edit) (ws : List FieldWrite) :
    p.writeEdit ws = p.onSlot edit fun x => { x with set := ws.foldl ParamSet.write x.set } := by
  rw [Params.writeEdit, h]
  rfl

/-- Settles O16: the length test, the first write that names no value of a field, and else the writes to the EDIT slot. -/
theorem setwWritesEditSetOrNothing : Obligations.SetwWritesEditSetOrNothing := by
  unfold Obligations.SetwWritesEditSetOrNothing
  intro tag r writes s free
  have answers {e : State} {payload : List Byte} (h : judgeRequest (.setw (readerCode r) writes) s = { state := e, payload := payload }) :
      Answers (.setw tag (readerCode r) writes) 0x05 tag s e payload :=
    answers_of_judge (q := .setw (readerCode r) writes) rfl free nofun rfl h
  constructor
  · intro hlen
    have hbad : ¬ (Request.setw (readerCode r) writes).lengthOk = true := by
      simp only [Request.lengthOk, Bool.and_eq_true, decide_eq_true_iff]
      omega
    exact answers (if_neg hbad)
  · intro hone hmany
    have hok : (Request.setw (readerCode r) writes).lengthOk = true := by
      simp only [Request.lengthOk, Bool.and_eq_true, decide_eq_true_iff]
      exact ⟨hone, hmany⟩
    constructor
    · intro w hw
      refine answers ((judgeRequest_of_reader hok rfl).trans ?_)
      simp only [takeForReader, takeSetw, hw]
      rfl
    · intro hvalid edit hedit clamped
      have hnone : writes.find? (fun w => !writeValid w) = none := by simpa using hvalid
      refine answers ((judgeRequest_of_reader hok rfl).trans ?_)
      simp only [takeForReader, takeSetw, hnone, List.isEmpty_iff]
      have hwritten : (s.onReader r fun x => { x with params := x.params.writeEdit writes }) =
          s.onReader r fun x => { x with params := x.params.onSlot edit fun y => { y with set := writes.foldl ParamSet.write y.set } } :=
        State.onReader_congr (by rw [Params.writeEdit_of_holder hedit])
      rw [hwritten]
      split_ifs <;> rfl

/-! ## One write into a set (R138, R139, R141) -/

/-- A boolean field holds the number written (R139). -/
theorem boolInt_of_admitted {v : Int} (h : (FieldKind.enumerated [0, 1]).admits v = true) : boolInt (v == 1) = v := by
  have hv : v = 0 ∨ v = 1 := by simpa [FieldKind.admits] using h
  rcases hv with rfl | rfl <;> rfl

theorem sourceOf_number_of_admitted {v : Int} (h : (FieldKind.enumerated [0, 1, 2]).admits v = true) : (sourceOf v).number = v := by
  have hv : v = 0 ∨ v = 1 ∨ v = 2 := by simpa [FieldKind.admits] using h
  rcases hv with rfl | rfl | rfl <;> rfl

/-- A numeric field whose range starts at 0 or above holds the number written (R139). -/
theorem toNat_of_admitted {lo hi v : Int} (hlo : 0 ≤ lo) (h : (FieldKind.numeric lo hi).admits v = true) : (v.toNat : Int) = v := by
  have hv : lo ≤ v ∧ v ≤ hi := by simpa [FieldKind.admits] using h
  omega

theorem mains_of_admitted {v : Int} (h : (FieldKind.enumerated [50, 60]).admits v = true) : (v.toNat : Int) = v := by
  have hv : v = 50 ∨ v = 60 := by simpa [FieldKind.admits] using h
  omega

/-- A field of a hum slot's record holds the number put there. -/
theorem HumConfig.get_put_self (c : HumConfig) {j : Nat} {k : FieldKind} {v : Int} (hk : slotFieldKind j = some k)
    (hv : k.admits v = true) : (c.put j v).get j = v := by
  unfold slotFieldKind at hk
  split at hk <;> cases hk
  · exact boolInt_of_admitted hv
  · exact sourceOf_number_of_admitted hv
  all_goals exact toNat_of_admitted (by decide) hv

theorem HumConfig.get_put_of_ne (c : HumConfig) {j j' : Nat} (v : Int) (h : j' ≠ j) : (c.put j v).get j' = c.get j' := by
  unfold HumConfig.put
  split <;> unfold HumConfig.get <;> split
  any_goals exact absurd rfl h
  all_goals rfl

/-- A reader-wide field holds the number put there. -/
theorem ParamSet.getWide_putWide_self (p : ParamSet) {id : Nat} {k : FieldKind} {v : Int} (hk : wideFieldKind id = some k)
    (hv : k.admits v = true) : (p.putWide id v).getWide id = v := by
  unfold wideFieldKind at hk
  split at hk <;> cases hk
  case h_1 | h_19 => exact boolInt_of_admitted hv
  case h_11 => rfl
  case h_17 => exact mains_of_admitted hv
  all_goals exact toNat_of_admitted (by decide) hv

theorem ParamSet.getWide_putWide_of_ne (p : ParamSet) {id id' : Nat} (v : Int) (h : id' ≠ id) :
    (p.putWide id v).getWide id' = p.getWide id' := by
  unfold ParamSet.putWide
  split <;> unfold ParamSet.getWide <;> split
  any_goals exact absurd rfl h
  all_goals rfl

/-- The hum slots' records stand apart from the reader-wide fields. -/
theorem ParamSet.hum_putWide (p : ParamSet) (id : Nat) (v : Int) : (p.putWide id v).hum = p.hum := by
  unfold ParamSet.putWide
  split <;> rfl

/-- An id in the block of ids of slot n (R138). -/
theorem slotOfField_eq_some {id : Nat} {n : Fin 12} : slotOfField id = some n ↔ 32 ≤ id ∧ (id - 32) / 8 = n.val := by
  unfold slotOfField
  split
  · rename_i h
    simp only [Option.some.injEq, Fin.ext_iff]
    exact ⟨fun hn => ⟨h.1, hn⟩, fun hn => hn.2⟩
  · rename_i h
    simp only [reduceCtorEq, false_iff]
    rintro ⟨h32, hn⟩
    exact h ⟨h32, hn ▸ n.isLt⟩

/-- A field of a set holds the number put there, where its kind admits it, and every other field stays (R139, R141). -/
theorem ParamSet.get_put (p : ParamSet) {id : Nat} (id' : Nat) {k : FieldKind} {v : Int} (hk : fieldKind id = some k)
    (hv : k.admits v = true) : (p.put id v).get id' = if id' = id then v else p.get id' := by
  unfold fieldKind at hk
  cases hid : slotOfField id with
  | some n =>
    rw [hid] at hk
    have hput : p.put id v = { p with hum := p.hum.set n.val (p.hum[n].put ((id - 32) % 8) v) n.isLt } := by
      simp only [ParamSet.put, hid]
    rw [hput]
    split_ifs with heq
    · subst heq
      simp only [ParamSet.get, hid]
      rw [Fin.getElem_fin, Vector.getElem_set_self]
      exact HumConfig.get_put_self _ hk hv
    · cases hid' : slotOfField id' with
      | none => simp only [ParamSet.get, hid']; rfl
      | some m =>
        simp only [ParamSet.get, hid', Fin.getElem_fin]
        by_cases hm : m.val = n.val
        · have hoffset : (id' - 32) % 8 ≠ (id - 32) % 8 := by
            have h1 := slotOfField_eq_some.mp hid
            have h2 := slotOfField_eq_some.mp hid'
            omega
          cases Fin.ext hm
          rw [Vector.getElem_set_self]
          exact HumConfig.get_put_of_ne _ v hoffset
        · rw [Vector.getElem_set_ne _ _ (Ne.symm hm)]
  | none =>
    rw [hid] at hk
    have hput : p.put id v = p.putWide id v := by simp only [ParamSet.put, hid]
    rw [hput]
    split_ifs with heq
    · subst heq
      simp only [ParamSet.get, hid]
      exact p.getWide_putWide_self hk hv
    · cases hid' : slotOfField id' with
      | none => simp only [ParamSet.get, hid', p.getWide_putWide_of_ne v heq]
      | some m => simp only [ParamSet.get, hid', p.hum_putWide]

/-- The range of a numeric field is not empty (R138). -/
theorem numeric_range {id : Nat} {lo hi : Int} (h : fieldKind id = some (.numeric lo hi)) : lo ≤ hi := by
  unfold fieldKind at h
  split at h
  · unfold slotFieldKind at h
    split at h <;> cases h <;> decide
  · unfold wideFieldKind at h
    split at h <;> cases h <;> decide

/-- The value that a valid write gives its field lies in its range or among its values (R140, R141). -/
theorem writtenValue_admitted {w : FieldWrite} (h : writeValid w = true) :
    ∃ k, fieldKind w.id.toNat = some k ∧ k.admits (writtenValue w) = true := by
  unfold writeValid at h
  split at h
  · rename_i lo hi hk
    have hrange := numeric_range hk
    have hvalue : writtenValue w = max lo (min hi w.value.toInt) := by simp only [writtenValue, hk, clampInt]
    refine ⟨_, hk, ?_⟩
    rw [hvalue, FieldKind.admits, Bool.and_eq_true, decide_eq_true_iff, decide_eq_true_iff]
    omega
  · rename_i values hk
    have hvalue : writtenValue w = w.value.toInt := by simp only [writtenValue, hk]
    exact ⟨_, hk, by rwa [hvalue]⟩
  · cases h

/-- Settles O17: a write puts the value that its field admits, and a put moves no other field. -/
theorem writeSetsItsFieldAlone : Obligations.WriteSetsItsFieldAlone := by
  unfold Obligations.WriteSetsItsFieldAlone
  intro p w id h
  obtain ⟨k, hk, hv⟩ := writtenValue_admitted h
  rw [ParamSet.write, p.get_put id hk hv]
  split_ifs with hid
  · subst hid
    rfl
  · rfl

/-! ## SETC (R143 to R145) -/

/-- A role that is counted once has one slot. -/
theorem Params.slot_unique {p : Params} {role : Role} (h : p.roles.count role = 1) {i j : SlotId} (hi : (p.slot i).role = role)
    (hj : (p.slot j).role = role) : i = j := by
  subst hi
  cases i <;> cases j <;> simp_all [Params.roles, Params.slot, List.count_cons] <;> omega

/-- A role that some slot holds is counted. -/
theorem Params.count_pos {p : Params} {role : Role} {i : SlotId} (hi : (p.slot i).role = role) : 0 < p.roles.count role := by
  subst hi
  rw [List.count_pos_iff]
  cases i <;> simp [Params.roles, Params.slot]

theorem Params.holder_of_count {p : Params} {role : Role} (h : p.roles.count role = 1) {i : SlotId}
    (hi : (p.slot i).role = role) : p.holder role = some i :=
  Params.holder_eq_some hi fun _ hj => Params.slot_unique h hj hi

theorem Params.holder_eq_none_of_count {p : Params} {role : Role} (h : p.roles.count role = 0) : p.holder role = none :=
  Params.holder_eq_none_iff.mpr fun _ hi => absurd (Params.count_pos hi) (by omega)

/-- The third slot is the one that is STAGED or SPARE (R137). -/
theorem Params.third_eq {p : Params} {third : SlotId} (h : p.RolesSound)
    (ht : (p.slot third).role = .staged ∨ (p.slot third).role = .spare) :
    p.third = some third ∧ ((p.holder .staged).isSome = true ↔ (p.slot third).role = .staged) := by
  obtain ⟨_, _, hthird, _⟩ := h
  unfold Params.third
  rcases ht with ht | ht
  · have hpos := Params.count_pos ht
    have hone : p.roles.count .staged = 1 := by omega
    rw [Params.holder_of_count hone ht]
    simp [ht]
  · have hpos := Params.count_pos ht
    have hone : p.roles.count .spare = 1 := by omega
    rw [Params.holder_eq_none_of_count (role := .staged) (by omega), Params.holder_of_count hone ht]
    simp [ht]

theorem takeSetc_of_inconsistent {r : ReaderId} {s : State} {id : Nat}
    (h : ((s.rd r).params.setOf .edit).inconsistency = some id) :
    takeSetc r s = { state := s, payload := [0x17, BitVec.ofNat 8 id] } := by
  simp only [takeSetc, h]
  rfl

theorem takeSetc_of_consistent {r : ReaderId} {s : State} {edit third : SlotId}
    (h : ((s.rd r).params.setOf .edit).inconsistency = none) (hedit : (s.rd r).params.holder .edit = some edit)
    (hthird : (s.rd r).params.third = some third) :
    takeSetc r s = answer (s.onReader r fun x => { x with params := x.params.commit edit third })
      (if ((s.rd r).params.holder .staged).isSome then .superseded else .ok) [edit.code, third.code] := by
  simp only [takeSetc, h, hedit, hthird]

/-- Settles O19: the tests of the handler on the one EDIT slot, and the commit to the one third slot. -/
theorem setcChecksAndCommitsEditSet : Obligations.SetcChecksAndCommitsEditSet := by
  unfold Obligations.SetcChecksAndCommitsEditSet
  intro tag r s edit third free hroles hedit hthird p failing
  have answers {e : State} {payload : List Byte} (h : takeSetc r s = { state := e, payload := payload }) :
      Answers (.setc tag (readerCode r)) 0x07 tag s e payload :=
    answers_of_reader (q := .setc (readerCode r)) rfl free nofun rfl rfl rfl h
  have hholder : (s.rd r).params.holder .edit = some edit := Params.holder_of_count hroles.2.1 hedit
  have hset : (s.rd r).params.setOf .edit = p := by simp only [Params.setOf, hholder, Option.getD_some, p]
  obtain ⟨hthirdSlot, hstaged⟩ := Params.third_eq hroles hthird
  have hfailing : p.inconsistency = failing := by
    refine if_congr not_lt rfl <| if_congr ?_ rfl rfl
    rw [not_and_or, not_le, not_le]
  clear_value failing
  cases failing with
  | some id => exact answers (takeSetc_of_inconsistent (by rw [hset, hfailing]))
  | none =>
    refine answers ((takeSetc_of_consistent (by rw [hset, hfailing]) hholder hthirdSlot).trans ?_)
    refine congrArg₂ Answer.mk (State.onReader_congr rfl) (congrArg₂ List.cons ?_ rfl)
    rw [apply_ite Status.code]
    exact if_congr hstaged rfl rfl

/-! ## HOLD, SYNC and RELS (R148, R149) -/

/-- What the mask of HOLD, SYNC and RELS names (section 8.3). -/
theorem maskNames_eq {mask : Byte} (h : mask = 1 ∨ mask = 2 ∨ mask = 3) (r : ReaderId) :
    maskNames mask r = match r with
      | .a => mask == 1 || mask == 3
      | .b => mask == 2 || mask == 3 := by
  rcases h with rfl | rfl | rfl <;> cases r <;> rfl

theorem takeMasked_of_bad {mask : Byte} {acts : Reader → Bool} {f : Reader → Reader} {s : State}
    (h : mask ≠ 1 ∧ mask ≠ 2 ∧ mask ≠ 3) : takeMasked mask acts f s = { state := s, payload := [0x1A] } := by
  refine if_neg ?_
  rintro (h1 | h2 | h3)
  exacts [h.1 h1, h.2.1 h2, h.2.2 h3]

/-- The effect on each reader named, and a byte for each. -/
theorem takeMasked_eq {mask : Byte} (h : mask = 1 ∨ mask = 2 ∨ mask = 3) (acts : Reader → Bool) (f : Reader → Reader) (s : State) :
    let done := fun r : ReaderId => maskNames mask r && acts (s.rd r)
    let code := fun b : Bool => (if b then 0x00 else 0x03 : Byte)
    takeMasked mask acts f s =
      { state := { s with
          readerA := if done .a then f s.readerA else s.readerA
          readerB := if done .b then f s.readerB else s.readerB }
        payload := [code (done .a || done .b), code (done .a), code (done .b)] } := by
  intro done code
  rw [takeMasked, if_pos h]
  change answer _ (if done .a || done .b then .ok else .noEffect) [_, _] = _
  cases ha : done .a <;> cases hb : done .b <;> simp only [done, State.rd_a, State.rd_b] at ha hb <;>
    simp only [ha, hb] <;> rfl

/-- Setting the hold flag where it stands so changes nothing. -/
theorem hold_of_changed (rd : Reader) (named flag : Bool) :
    (if named && rd.params.hold != flag then { rd with params := { rd.params with hold := flag } } else rd) =
      if named then { rd with params := { rd.params with hold := flag } } else rd := by
  cases named
  · rfl
  · by_cases h : rd.params.hold = flag
    · subst h
      simp
    · simp [h]

theorem roles_contains_staged (p : Params) : p.roles.contains Role.staged = (p.holder .staged).isSome := by
  rw [Bool.eq_iff_iff, List.contains_iff_mem, ← List.count_pos_iff, Option.isSome_iff_ne_none]
  constructor
  · intro h hnone
    have hfree := Params.holder_eq_none_iff.mp hnone
    have h0 := hfree .slot0
    have h1 := hfree .slot1
    have h2 := hfree .slot2
    simp only [Params.slot] at h0 h1 h2
    simp [Params.roles, h0, h1, h2] at h
  · intro h
    obtain ⟨i, hi⟩ := Option.ne_none_iff_exists'.mp h
    exact Params.count_pos (Params.role_of_holder hi)

section Masked

variable {tag mask : Byte} {s e : State} {payload : List Byte}

theorem answers_hold (free : s.link.reply = none) (h : takeHold mask s = { state := e, payload := payload }) :
    Answers (.hold tag mask) 0x08 tag s e payload :=
  answers_of_judge (q := .hold mask) rfl free nofun rfl ((judgeRequest_of_part rfl rfl).trans h)

theorem answers_rels (free : s.link.reply = none) (h : takeRels mask s = { state := e, payload := payload }) :
    Answers (.rels tag mask) 0x0A tag s e payload :=
  answers_of_judge (q := .rels mask) rfl free nofun rfl ((judgeRequest_of_part rfl rfl).trans h)

theorem answers_sync (free : s.link.reply = none) (h : takeSync mask s = { state := e, payload := payload }) :
    Answers (.sync tag mask) 0x09 tag s e payload :=
  answers_of_judge (q := .sync mask) rfl free nofun rfl ((judgeRequest_of_part rfl rfl).trans h)

end Masked

/-- Settles O20: the three requests are one handler, with the flag that each moves. -/
theorem holdSyncAndRelsMoveTheirFlags : Obligations.HoldSyncAndRelsMoveTheirFlags := by
  unfold Obligations.HoldSyncAndRelsMoveTheirFlags
  constructor
  · intro tag mask s free
    constructor
    · intro hbad
      exact ⟨answers_hold free (takeMasked_of_bad hbad), answers_rels free (takeMasked_of_bad hbad)⟩
    · intro hmask flag named changed put after code
      have hdone (acts : Reader → Bool) (hacts : ∀ rd, acts rd = (rd.params.hold != flag)) :
          takeMasked mask acts put s =
            { state := after, payload := [code (changed .a || changed .b), code (changed .a), code (changed .b)] } := by
        rw [takeMasked_eq hmask]
        simp only [hacts, maskNames_eq hmask, State.rd_a, State.rd_b, put, hold_of_changed]
        rfl
      cases flag
      · exact answers_rels free (hdone (fun x => x.params.hold) (by simp))
      · exact answers_hold free (hdone (fun x => !x.params.hold) (by simp))
  · intro tag mask s free
    constructor
    · intro hbad
      exact answers_sync free (takeMasked_of_bad hbad)
    · intro hmask named acts put after code
      refine answers_sync free ((takeMasked_eq hmask _ _ s).trans ?_)
      simp only [← roles_contains_staged, maskNames_eq hmask, State.rd_a, State.rd_b]
      rfl

/-! ## WTCH and WTCD (R170, R171) -/

/-- The mask names conditions alone where it is at most 1023. -/
theorem mask_and_not_conditionBits (mask : BitVec 16) : mask &&& ~~~conditionBits = 0 ↔ mask.toNat ≤ 1023 := by
  have hbits : ∀ i : Nat, i < 16 → conditionBits.getLsbD i = decide (i < 10) := by decide
  constructor
  · intro h
    have hlt : mask.toNat < 2 ^ 10 := by
      refine Nat.lt_pow_two_of_testBit _ fun i hi => ?_
      by_cases h16 : i < 16
      · have hbit := congrArg (BitVec.getLsbD · i) h
        simp only [BitVec.getLsbD_and, BitVec.getLsbD_not, hbits i h16] at hbit
        simpa [h16, Nat.not_lt.mpr hi, BitVec.testBit_toNat, ← BitVec.getLsbD_eq_getElem] using hbit
      · exact Nat.testBit_lt_two_pow (mask.isLt.trans_le (Nat.pow_le_pow_right (by decide) (Nat.not_lt.mp h16)))
    omega
  · intro h
    refine BitVec.eq_of_getLsbD_eq fun i hi => ?_
    by_cases h10 : i < 10
    · simp [hbits i hi, h10]
    · have : mask.toNat.testBit i = false :=
        Nat.testBit_lt_two_pow ((Nat.lt_succ_of_le h).trans_le (Nat.pow_le_pow_right (n := 2) (i := 10) (by decide) (Nat.not_lt.mp h10)))
      simp [BitVec.getLsbD, this]

/-- The arbiter touches no reader, and no report but for its report-lost field. -/
@[simp] theorem State.rd_arbitrate (s : State) (r : ReaderId) : s.arbitrate.rd r = s.rd r := by
  unfold State.arbitrate
  split
  · rfl
  · rfl
  · split
    · split
      · exact State.rd_onLink s _ r
      · split
        · split
          · rfl
          · rw [State.rd_onLink, State.rd_onQueue]
        · rfl
    · rfl

@[simp] theorem State.bodies_arbitrate (s : State) : s.arbitrate.queue.bodies = s.queue.bodies := by
  unfold State.arbitrate
  split
  · rfl
  · rfl
  · split
    · split
      · rfl
      · split
        · split
          · rfl
          · exact ReportQueue.bodies_beginHead _
        · rfl
    · rfl

/-- A request that a free link takes: its answer's state with the reply outstanding, then the watches and the arbiter. -/
theorem exec_of_judge {c : Instr} {tag : Byte} {q : Request} {s e : State} {payload : List Byte}
    (hc : exec c s = .next (dispatchRequest tag q s).arbitrate) (free : s.link.reply = none) (hq : q ≠ .rset)
    (h : judgeRequest q s = { state := e, payload := payload }) :
    exec c s = .next ((e.replied q.code tag payload).evaluateWatches).arbitrate := by
  have hrset : (q == Request.rset) = false := by simpa using hq
  rw [hc, dispatchRequest_of_free tag q free]
  simp only [takeRequest, becomeOutstanding, h, hrset, replyType_code, State.replied]

/-- A satisfied watch fires at the evaluation; what may come before it is the other reader's alert alone (R170, R186). -/
theorem evaluateWatches_fires {s : State} {r : ReaderId} (h : (s.rd r).watch.satisfied (s.conditions r) = true) :
    ∃ u, Settles s u ∧ u.rd r = s.rd r ∧ u.queue.occupied ≤ s.queue.occupied + 1 ∧
      Settles (u.fireWatch r (s.conditions r)) s.evaluateWatches := by
  have hocc (t : State) (k : ReaderId) (c : BitVec 16) : (t.fireWatch k c).queue.occupied ≤ t.queue.occupied + 1 := by
    simp only [State.fireWatch, State.onReader_queue, State.offer, State.onQueue_queue, ReportQueue.offer]
    split
    all_goals simp [ReportQueue.occupied]
    omega
  have hrd (t : State) (k : ReaderId) (c : BitVec 16) (hk : r ≠ k) : (t.fireWatch k c).rd r = t.rd r := by
    rw [State.fireWatch, State.rd_onReader_of_ne _ _ _ _ hk, State.rd_offer]
  have htick (n : Nat) : Settles s { s with freeTick := n } := 
    ⟨⟨rfl, rfl, id, id, rfl, rfl, rfl, rfl, rfl, fun _ => rfl, rfl, rfl, rfl, rfl, rfl⟩, Reports.refl s⟩
  unfold State.evaluateWatches
  dsimp only
  cases r with
  | a =>
    rw [h]
    cases hb : (s.rd .b).watch.satisfied (s.conditions .b) with
    | true =>
      simp only [Bool.and_self, if_true]
      split
      · exact ⟨{ s with freeTick := s.freeTick + 1 }, htick _, rfl, Nat.le_succ _, State.fireWatch_settles _ .b _⟩
      · exact ⟨({ s with freeTick := s.freeTick + 1 } : State).fireWatch .b (s.conditions .b),
          (htick _).trans (State.fireWatch_settles _ .b _), hrd _ .b _ (by decide), hocc _ .b _, Settles.refl _⟩
    | false =>
      simp only [Bool.and_false, Bool.false_eq_true, if_false, if_true]
      exact ⟨s, Settles.refl s, rfl, Nat.le_succ _, State.evaluateWatch_settles _ .b⟩
  | b =>
    rw [h]
    cases ha : (s.rd .a).watch.satisfied (s.conditions .a) with
    | true =>
      simp only [Bool.and_self, if_true]
      split
      · exact ⟨({ s with freeTick := s.freeTick + 1 } : State).fireWatch .a (s.conditions .a),
          (htick _).trans (State.fireWatch_settles _ .a _), hrd _ .a _ (by decide), hocc _ .a _, Settles.refl _⟩
      · exact ⟨{ s with freeTick := s.freeTick + 1 }, htick _, rfl, Nat.le_succ _, State.fireWatch_settles _ .a _⟩
    | false =>
      simp only [Bool.false_and, Bool.false_eq_true, if_false, if_true]
      exact ⟨s, Settles.refl s, rfl, Nat.le_succ _, State.evaluateWatch_settles _ .a⟩

/-- Where neither watch is satisfied the evaluation changes nothing. -/
theorem evaluateWatches_of_unsatisfied {s : State} (h : ∀ r, (s.rd r).watch.satisfied (s.conditions r) = false) :
    s.evaluateWatches = s := by
  simp only [State.evaluateWatches, h .a, h .b]
  rfl

theorem Ends.armed {s t : State} (h : Ends s t) (r : ReaderId) (ht : (t.rd r).watch.armed = true) : (s.rd r).watch.armed = true := by
  cases r
  · exact h.armedA ht
  · exact h.armedB ht

/-- The alert of a satisfied watch stands among the reports that the evaluation adds, where two places are free (R170). -/
theorem evaluateWatches_alert {s : State} {r : ReaderId} (h : (s.rd r).watch.satisfied (s.conditions r) = true) :
    (s.evaluateWatches.rd r).watch.armed = false ∧
    (s.queue.occupied + 1 < 64 →
      (r, ReportBody.alrt (s.conditions r) (s.rd r).watch.mask (s.rd r).watch.mode (s.rd r).monitor.frameCount (s.rd r).index) ∈
        s.evaluateWatches.queue.bodies.drop s.queue.bodies.length) := by
  obtain ⟨u, hu, hrd, hocc, hfire⟩ := evaluateWatches_fires h
  constructor
  · by_contra harmed
    have := hfire.1.armed r (by simpa using harmed)
    simp [State.fireWatch] at this
  · intro hplace
    obtain ⟨before, hbefore, _⟩ := hu.2
    obtain ⟨behind, hbehind, _⟩ := hfire.2
    have hkept : (u.fireWatch r (s.conditions r)).queue.bodies = u.queue.bodies ++
        [(r, .alrt (s.conditions r) (u.rd r).watch.mask (u.rd r).watch.mode (u.rd r).monitor.frameCount (u.rd r).index)] := by
      simp only [State.fireWatch, State.onReader_queue, State.bodies_offer, State.kept]
      rw [if_pos (by omega)]
    rw [hbehind, hkept, hbefore, hrd]
    simp

theorem Watch.satisfied_iff (mask : BitVec 16) (m : WatchMode) (cs : BitVec 16) :
    ({ armed := true, mask := mask, mode := m } : Watch).satisfied cs = true ↔ (match m with
      | .any => cs &&& mask ≠ 0
      | .all => cs &&& mask = mask) := by
  cases m <;> simp [Watch.satisfied]

@[simp] theorem watchModeOf_code (m : WatchMode) : watchModeOf m.code = some m := by
  cases m <;> rfl

/-- The watch modes are 0 and 1. -/
theorem watchModeOf_eq_none {b : Byte} (h : 1 < b.toNat) : watchModeOf b = none := by
  have hne (n : Byte) (hn : n.toNat ≤ 1) : b ≠ n := fun heq => absurd hn (by rw [← heq]; omega)
  rw [watchModeOf, if_neg (hne 0 (by decide)), if_neg (hne 1 (by decide))]

/-- The refusal of a mask that names no condition or one that is none. -/
theorem watchMask_bad_iff (mask : BitVec 16) :
    (mask = 0 ∨ mask &&& ~~~conditionBits ≠ 0) ↔ (mask.toNat = 0 ∨ 1023 < mask.toNat) := by
  rw [Ne, mask_and_not_conditionBits, not_le, BitVec.toNat_eq]
  rfl

theorem takeWtch_of_bad {r : ReaderId} {mask : BitVec 16} {mode : Byte} {s : State}
    (h : mask.toNat = 0 ∨ 1023 < mask.toNat ∨ 1 < mode.toNat) :
    takeWtch r mask mode s = { state := s, payload := [0x1A] } := by
  unfold takeWtch
  split
  · rfl
  · rename_i m hm
    refine if_pos ((watchMask_bad_iff mask).mpr ?_)
    rcases h with h | h | h
    · exact .inl h
    · exact .inr h
    · rw [watchModeOf_eq_none h] at hm
      cases hm

/-- Settles O26: WTCH arms, and the evaluation that follows the reply fires the watch or leaves it. -/
theorem wtchArmsAndWtcdDisarmsWatch : Obligations.WtchArmsAndWtcdDisarmsWatch := by
  unfold Obligations.WtchArmsAndWtcdDisarmsWatch
  constructor
  · intro tag r mask mode s free
    constructor
    · intro hbad
      exact answers_of_reader (q := .wtch (readerCode r) mask mode) rfl free nofun rfl rfl rfl (takeWtch_of_bad hbad)
    · rintro hpos hmax m rfl cs satisfied
      let e := s.onReader r fun rd => { rd with watch := { armed := true, mask := mask, mode := m } }
      let u := e.replied 0x14 tag (0x00 :: bytes16 cs)
      have htake : takeWtch r mask m.code s = { state := e, payload := 0x00 :: bytes16 cs } := by
        rw [takeWtch, watchModeOf_code]
        exact if_neg ((watchMask_bad_iff mask).not.mpr (by omega))
      have hexec := exec_of_judge (c := .wtch tag (readerCode r) mask m.code) (q := .wtch (readerCode r) mask m.code) rfl free nofun
        ((judgeRequest_of_reader rfl rfl).trans htake)
      have hself : u.rd r = { s.rd r with watch := { armed := true, mask := mask, mode := m } } := by
        simp only [u, e, State.replied, State.rd_onLink, State.rd_onReader_self]
      have hother : u.rd (otherReader r) = s.rd (otherReader r) := by
        simp only [u, e, State.replied, State.rd_onLink, State.rd_onReader_of_ne _ _ _ _ (otherReader_ne r)]
      have hqueue : u.queue = s.queue := State.onReader_queue s r _
      have hcs : u.conditions r = cs := by
        simp only [State.conditions, hself, hqueue, Reader.humParked, cs]
      have hsat : (u.rd r).watch.satisfied (u.conditions r) = true ↔ satisfied := by
        rw [hself, hcs]
        exact Watch.satisfied_iff mask m cs
      refine ⟨_, hexec, u.evaluateWatches_settles.trans (State.arbitrate_settles _), fun hs => ?_, fun hs hidle => ?_⟩
      · obtain ⟨harmed, halert⟩ := evaluateWatches_alert (hsat.mpr hs)
        rw [hcs, hself, hqueue] at halert
        rw [State.rd_arbitrate, State.bodies_arbitrate]
        exact ⟨harmed, halert⟩
      · have hnone : u.evaluateWatches = u := by
          refine evaluateWatches_of_unsatisfied fun k => ?_
          by_cases hk : k = r
          · subst hk
            simpa using hsat.not.mpr hs
          · have hko : k = otherReader r := by revert hk; cases k <;> cases r <;> simp [otherReader]
            rw [hko, Watch.satisfied, hother, hidle, Bool.false_and]
        change ((u.evaluateWatches.arbitrate).rd r).watch.armed = true ∧ u.evaluateWatches.arbitrate.queue.bodies = _
        rw [hnone, State.rd_arbitrate, State.bodies_arbitrate, hself, hqueue]
        exact ⟨rfl, rfl⟩
  · intro tag r s free
    have answers {e : State} {payload : List Byte} (h : takeWtcd r s = { state := e, payload := payload }) :
        Answers (.wtcd tag (readerCode r)) 0x15 tag s e payload :=
      answers_of_reader (q := .wtcd (readerCode r)) rfl free nofun rfl rfl rfl h
    exact ⟨fun h => answers (if_pos h), fun h => answers (if_neg (by simp [h]))⟩

end Sys2Proof.Machine
end

section
/-! The requests as frames (R179, R181), and the pending request and the ends of messages (R161, R178). -/

namespace Sys2Proof.Machine

/-! ## Words and their bytes (R181) -/

/-- The four bytes of a word give the word. -/
theorem word32_bytes32 (w : BitVec 32) :
    word32 (w.extractLsb' 0 8) (w.extractLsb' 8 8) (w.extractLsb' 16 8) (w.extractLsb' 24 8) = w := by
  have hhigh : w.extractLsb' 24 8 ++ w.extractLsb' 16 8 = w.extractLsb' 16 16 :=
    BitVec.extractLsb'_append_extractLsb'_eq_extractLsb' (by omega)
  have hlow : w.extractLsb' 8 8 ++ w.extractLsb' 0 8 = w.extractLsb' 0 16 :=
    BitVec.extractLsb'_append_extractLsb'_eq_extractLsb' (by omega)
  have hwhole : w.extractLsb' 16 16 ++ w.extractLsb' 0 16 = w.extractLsb' 0 32 :=
    BitVec.extractLsb'_append_extractLsb'_eq_extractLsb' (by omega)
  rw [word32, hhigh, hlow, hwhole, BitVec.extractLsb'_eq_self]

theorem word16_bytes16 (w : BitVec 16) : word16 (w.extractLsb' 0 8) (w.extractLsb' 8 8) = w := by
  have hwhole : w.extractLsb' 8 8 ++ w.extractLsb' 0 8 = w.extractLsb' 0 16 :=
    BitVec.extractLsb'_append_extractLsb'_eq_extractLsb' (by omega)
  rw [word16, hwhole, BitVec.extractLsb'_eq_self]

/-! ## Requests decode back (R181) -/

/-- The bytes of field writes spell those writes. -/
theorem parseWrites_writeBytes (ws : List FieldWrite) : parseWrites (ws.flatMap writeBytes) = some ws := by
  induction ws with
  | nil => rfl
  | cons w ws ih =>
    change parseWrites (w.id :: w.value.extractLsb' 0 8 :: w.value.extractLsb' 8 8 :: w.value.extractLsb' 16 8 ::
      w.value.extractLsb' 24 8 :: ws.flatMap writeBytes) = some (w :: ws)
    rw [parseWrites, ih, word32_bytes32]

theorem Request.setw_lengthOk {r : Byte} {ws : List FieldWrite} :
    (Request.setw r ws).lengthOk = true ↔ 1 ≤ ws.length ∧ ws.length ≤ 128 := by
  simp [Request.lengthOk]

/-- A SETW that a frame carries spells its writes where it holds 1 to 128 of them, and else has a bad length (R140). -/
theorem decodeRequest_setw (r : Byte) (ws : List FieldWrite) (h : ws.length < 256) :
    decodeRequest 0x05 (Request.setw r ws).payload =
      if (Request.setw r ws).lengthOk then .request (.setw r ws) else .badLength := by
  have hcount : (BitVec.ofNat 8 ws.length).toNat = ws.length := by
    rw [BitVec.toNat_ofNat]
    omega
  change parseSetw (r :: BitVec.ofNat 8 ws.length :: ws.flatMap writeBytes) = _
  rw [parseSetw, parseWrites_writeBytes]
  simp only [hcount, true_and]
  exact if_congr Request.setw_lengthOk.symm rfl rfl

/-- The words of a request's payload are the words that were written. -/
theorem decodeRequest_payload (q : Request) (h : ∀ r ws, q ≠ .setw r ws) : decodeRequest q.code q.payload = .request q := by
  cases q with
  | setw r ws => exact absurd rfl (h r ws)
  | strt r m o f =>
    change Decoded.request (.strt r m o (word32 _ _ _ _)) = _
    rw [word32_bytes32]
  | splm r f =>
    change Decoded.request (.splm r (word32 _ _ _ _)) = _
    rw [word32_bytes32]
  | splc r f =>
    change Decoded.request (.splc r (word32 _ _ _ _)) = _
    rw [word32_bytes32]
  | exca r f g =>
    change Decoded.request (.exca r (word32 _ _ _ _) (word32 _ _ _ _)) = _
    rw [word32_bytes32, word32_bytes32]
  | excr r f =>
    change Decoded.request (.excr r (word32 _ _ _ _)) = _
    rw [word32_bytes32]
  | capa r k p m =>
    change Decoded.request (.capa r k (word16 _ _) m) = _
    rw [word16_bytes16]
  | capr r l o n =>
    change Decoded.request (.capr r l (word16 _ _) (word16 _ _)) = _
    rw [word16_bytes16, word16_bytes16]
  | wtch r m x =>
    change Decoded.request (.wtch r (word16 _ _) x) = _
    rw [word16_bytes16]
  | _ => rfl

/-- Settles O56: SETW by its writes, every other request by its words. -/
theorem requestFramesDecodeBack : Obligations.RequestFramesDecodeBack := by
  unfold Obligations.RequestFramesDecodeBack
  intro q hok
  by_cases hsetw : ∃ r ws, q = .setw r ws
  · obtain ⟨r, ws, rfl⟩ := hsetw
    have hlen := Request.setw_lengthOk.mp hok
    refine (decodeRequest_setw r ws (by omega)).trans (if_pos hok)
  · exact decodeRequest_payload q fun r ws heq => hsetw ⟨r, ws, heq⟩

/-! ## Type and length decide (R179) -/

/-- A payload is a request's where its length is n, and has a bad length elsewhere. -/
def DecidedByLength (n : Nat) (payload : List Byte) (d : Decoded) : Prop :=
  d ≠ .unknown ∧ ((∃ q, d = .request q) ↔ n = payload.length)

theorem decidedByLength_of {n : Nat} {payload : List Byte} {d : Decoded} (hbad : n ≠ payload.length → d = .badLength)
    (hgood : n = payload.length → ∃ q, d = .request q) : DecidedByLength n payload d := by
  by_cases h : n = payload.length
  · obtain ⟨q, rfl⟩ := hgood h
    exact ⟨nofun, iff_of_true ⟨q, rfl⟩ h⟩
  · rw [hbad h]
    exact ⟨nofun, iff_of_false nofun h⟩

theorem parseEmpty_decided (q : Request) (payload : List Byte) : DecidedByLength 0 payload (parseEmpty q payload) := by
  refine decidedByLength_of (fun h => ?_) fun h => ?_
  · unfold parseEmpty
    split
    · exact absurd rfl h
    · rfl
  · match payload, h with
    | [], _ => exact ⟨_, rfl⟩

theorem parse1_decided (f : Byte → Request) (payload : List Byte) : DecidedByLength 1 payload (parse1 f payload) := by
  refine decidedByLength_of (fun h => ?_) fun h => ?_
  · unfold parse1
    split
    · exact absurd rfl h
    · rfl
  · match payload, h with
    | [a], _ => exact ⟨_, rfl⟩

theorem parse2_decided (f : Byte → Byte → Request) (payload : List Byte) : DecidedByLength 2 payload (parse2 f payload) := by
  refine decidedByLength_of (fun h => ?_) fun h => ?_
  · unfold parse2
    split
    · exact absurd rfl h
    · rfl
  · match payload, h with
    | [a, b], _ => exact ⟨_, rfl⟩

theorem parse1Word_decided (f : Byte → BitVec 32 → Request) (payload : List Byte) :
    DecidedByLength 5 payload (parse1Word f payload) := by
  refine decidedByLength_of (fun h => ?_) fun h => ?_
  · unfold parse1Word
    split
    · exact absurd rfl h
    · rfl
  · match payload, h with
    | [a, b0, b1, b2, b3], _ => exact ⟨_, rfl⟩

/-- The payload lengths of the requests in the order of their types; SETW's is open (section 10.6). -/
def payloadLengths : List Nat := [0, 7, 1, 2, 0, 2, 1, 1, 1, 1, 5, 5, 1, 9, 5, 1, 5, 6, 1, 4, 1, 1, 1, 1, 0]

/-- Every type but SETW's has one payload length. -/
theorem decodeRequest_decided {type : Byte} (h1 : 1 ≤ type.toNat) (h2 : type.toNat ≤ 0x19) (h3 : type.toNat ≠ 0x05)
    (payload : List Byte) :
    ∃ n, payloadLengths[type.toNat - 1]? = some n ∧ DecidedByLength n payload (decodeRequest type payload) := by
  unfold decodeRequest
  generalize type.toNat = k at h1 h2 h3
  split
  case h_1 | h_25 => exact ⟨0, rfl, parseEmpty_decided _ _⟩
  case h_3 | h_7 | h_8 | h_9 | h_10 | h_13 | h_16 | h_19 | h_21 | h_22 | h_23 | h_24 => exact ⟨1, rfl, parse1_decided _ _⟩
  case h_4 | h_6 => exact ⟨2, rfl, parse2_decided _ _⟩
  case h_11 | h_12 | h_15 => exact ⟨5, rfl, parse1Word_decided _ _⟩
  case h_5 => exact absurd rfl h3
  case h_26 hnone =>
    interval_cases k <;> simp_all
  case h_2 =>
    refine ⟨7, rfl, decidedByLength_of (fun h => ?_) fun h => ?_⟩
    · split
      · exact absurd rfl h
      · rfl
    · match payload, h with
      | [a, b, c, d, e, f, g], _ => exact ⟨_, rfl⟩
  case h_14 =>
    refine ⟨9, rfl, decidedByLength_of (fun h => ?_) fun h => ?_⟩
    · split
      · exact absurd rfl h
      · rfl
    · match payload, h with
      | [a, b, c, d, e, f, g, i, j], _ => exact ⟨_, rfl⟩
  case h_17 =>
    refine ⟨5, rfl, decidedByLength_of (fun h => ?_) fun h => ?_⟩
    · split
      · exact absurd rfl h
      · rfl
    · match payload, h with
      | [a, b, c, d, e], _ => exact ⟨_, rfl⟩
  case h_18 =>
    refine ⟨6, rfl, decidedByLength_of (fun h => ?_) fun h => ?_⟩
    · split
      · exact absurd rfl h
      · rfl
    · match payload, h with
      | [a, b, c, d, e, f], _ => exact ⟨_, rfl⟩
  case h_20 =>
    refine ⟨4, rfl, decidedByLength_of (fun h => ?_) fun h => ?_⟩
    · split
      · exact absurd rfl h
      · rfl
    · match payload, h with
      | [a, b, c, d], _ => exact ⟨_, rfl⟩

/-- The bytes behind a SETW's count spell writes where they come in fives (R140). -/
theorem parseWrites_eq_some_iff (bytes : List Byte) (n : Nat) :
    (∃ ws, parseWrites bytes = some ws ∧ ws.length = n) ↔ bytes.length = 5 * n := by
  induction n generalizing bytes with
  | zero =>
    constructor
    · rintro ⟨ws, hws, hlen⟩
      unfold parseWrites at hws
      split at hws
      · rfl
      · split at hws
        · cases hws
          cases hlen
        · cases hws
      · cases hws
    · intro h
      rw [List.length_eq_zero_iff.mp h]
      exact ⟨[], rfl, rfl⟩
  | succ n ih =>
    constructor
    · rintro ⟨ws, hws, hlen⟩
      unfold parseWrites at hws
      split at hws
      · cases hws
        cases hlen
      · rename_i rest
        split at hws
        · rename_i ws' hrest
          cases hws
          have := (ih rest).mp ⟨ws', hrest, Nat.succ.inj hlen⟩
          simp only [List.length_cons]
          omega
        · cases hws
      · cases hws
    · intro h
      match bytes, h with
      | i :: b0 :: b1 :: b2 :: b3 :: rest, h =>
        obtain ⟨ws, hws, hlen⟩ := (ih rest).mpr (by simp only [List.length_cons] at h; omega)
        refine ⟨{ id := i, value := word32 b0 b1 b2 b3 } :: ws, ?_, congrArg Nat.succ hlen⟩
        rw [parseWrites, hws]

theorem parseSetw_iff (payload : List Byte) :
    (∃ q, parseSetw payload = .request q) ↔
      ∃ (r n : Byte) (rest : List Byte), payload = r :: n :: rest ∧ rest.length = 5 * n.toNat ∧ 1 ≤ n.toNat ∧ n.toNat ≤ 128 := by
  unfold parseSetw
  split
  · rename_i r n rest
    have hwrites := parseWrites_eq_some_iff rest n.toNat
    split
    · rename_i ws hws
      have hlen : ws.length = n.toNat ↔ rest.length = 5 * n.toNat := by simpa [hws] using hwrites
      split
      · rename_i h
        exact iff_of_true ⟨_, rfl⟩ ⟨r, n, rest, rfl, hlen.mp h.1, h.2⟩
      · rename_i h
        refine iff_of_false nofun ?_
        rintro ⟨r', n', rest', heq, hlen', hcount⟩
        cases heq
        exact h ⟨hlen.mpr hlen', hcount⟩
    · rename_i hnone
      refine iff_of_false nofun ?_
      rintro ⟨r', n', rest', heq, h', _⟩
      cases heq
      simp [hnone] at hwrites
      exact hwrites h'
  · rename_i hshort
    refine iff_of_false nofun ?_
    rintro ⟨r, n, rest, rfl, _⟩
    exact hshort r n rest rfl

theorem parseSetw_known (payload : List Byte) : parseSetw payload ≠ .unknown := by
  unfold parseSetw
  split
  · split
    · split <;> nofun
    · nofun
  · nofun

/-- Settles O55: type by type, the parser that the decoder takes. -/
theorem typeAndLengthDecideTheRequest : Obligations.TypeAndLengthDecideTheRequest := by
  unfold Obligations.TypeAndLengthDecideTheRequest
  intro type payload lengths
  refine ⟨⟨fun h => ?_, fun h => ?_⟩, fun h1 h2 h3 => ?_, fun h5 => ?_⟩
  · by_contra hin
    by_cases h5 : type.toNat = 0x05
    · simp only [decodeRequest, h5] at h
      exact parseSetw_known payload h
    · obtain ⟨n, _, hknown, _⟩ := decodeRequest_decided (type := type) (by omega) (by omega) h5 payload
      exact hknown h
  · unfold decodeRequest
    split
    case h_26 => rfl
    all_goals omega

  · obtain ⟨n, hn, _, hiff⟩ := decodeRequest_decided h1 h2 h3 payload
    rw [hiff]
    change n = payload.length ↔ payloadLengths[type.toNat - 1]? = some payload.length
    rw [hn, Option.some.injEq]
  · simp only [decodeRequest, h5]
    exact parseSetw_iff payload

/-! ## Frames that are taken (R178, R179) -/

/-- A good frame that carries a well-formed command's request is taken as the request's row is. -/
theorem takeFrame_of_wf {c : Instr} {tag : Byte} {q : Request} (h : requestOf c = some (tag, q)) (hwf : c.wf = true) (s : State) :
    takeFrame (q.frame tag) s = takeRequest tag q s := by
  by_cases hsetw : ∃ r ws, q = .setw r ws
  · obtain ⟨r, ws, rfl⟩ := hsetw
    have hlen : ws.length < 256 := by
      cases c with
      | setw _ _ ws' =>
        cases h
        have := of_decide_eq_true hwf
        omega
      | _ => cases h
    have hdecode := decodeRequest_setw r ws hlen
    by_cases hok : (Request.setw r ws).lengthOk = true
    · rw [if_pos hok] at hdecode
      simp only [takeFrame, Request.frame, Request.code, hdecode]
    · rw [if_neg hok] at hdecode
      simp only [takeFrame, Request.frame, Request.code, hdecode, takeRequest, judgeRequest, if_neg hok]
      rfl
  · have hdecode := decodeRequest_payload q fun r ws heq => hsetw ⟨r, ws, heq⟩
    simp only [takeFrame, Request.frame, hdecode]

theorem dispatchFrame_of_wf {c : Instr} {tag : Byte} {q : Request} (h : requestOf c = some (tag, q)) (hwf : c.wf = true) (s : State) :
    dispatchFrame (q.frame tag) s = dispatchRequest tag q s := by
  unfold dispatchFrame dispatchRequest
  split
  · exact takeFrame_of_wf h hwf s
  · rfl

/-- The pending request is taken as its row takes it, once it no longer waits (R178). -/
theorem takePending_of_wf {c : Instr} {tag : Byte} {q : Request} {s : State} (h : requestOf c = some (tag, q)) (hwf : c.wf = true)
    (hreply : s.link.reply = none) (hpending : s.link.pendingRequest = some (q.frame tag)) :
    takePending s = dispatchRequest tag q (s.onLink fun k => { k with pendingRequest := none }) := by
  rw [dispatchRequest_of_free (s := s.onLink fun k => { k with pendingRequest := none }) tag q hreply, ← takeFrame_of_wf h hwf]
  simp only [takePending, hreply, hpending]

/-- Settles O59: the pending request is a frame, and a frame is taken as its row. -/
theorem pendingRequestsAndSentMessagesLeave : Obligations.PendingRequestsAndSentMessagesLeave := by
  unfold Obligations.PendingRequestsAndSentMessagesLeave
  refine ⟨⟨?taken, ?nothing⟩, ?sent, ?behind⟩
  case taken =>
    intro c tag q s hc hwf hreply hpending
    exact ⟨_, congrArg (fun u : State => Host.Outcome.next u.arbitrate) (takePending_of_wf hc hwf hreply hpending), exec_of_request hc _⟩
  case nothing =>
    intro s h
    apply completes_of_arbitrate
    change Host.Outcome.next (takePending s).arbitrate = _
    unfold takePending
    split
    · simp_all
    · rfl
    · rfl
  case sent =>
    intro bytes s
    refine ⟨fun hidle => ?_, fun hreport => ?_, fun rep htx hrep hrset hnone => ?_⟩
    · apply completes_of_arbitrate
      change Host.Outcome.next (messageSent s).arbitrate = _
      rw [messageSent, hidle]
    · apply completes_of_watches
      change Host.Outcome.next (messageSent s).arbitrate = _
      rw [messageSent, hreport]
      rfl
    · apply completes_of_arbitrate
      change Host.Outcome.next (messageSent s).arbitrate = _
      have hawaits : s.link.resetAwaits = false := (Link.resetAwaits_of_reply htx hrep).trans hrset
      simp [messageSent, htx, hawaits, replySent, takePending, hnone]
  case behind =>
    intro c tag q bytes rep s hc hwf htx hrep hrset hpending
    have hawaits : s.link.resetAwaits = false := (Link.resetAwaits_of_reply htx hrep).trans hrset
    refine ⟨_, ?_, exec_of_request hc _⟩
    change Host.Outcome.next (messageSent s).arbitrate = _
    have hsent : messageSent s = replySent s := by simp only [messageSent, htx, hawaits]; rfl
    rw [hsent, replySent, takePending_of_wf (s := s.onLink fun k => { k with transmitter := .idle, reply := none }) hc hwf rfl hpending]
    rfl

end Sys2Proof.Machine
end

section
/-! The receiver (R175 to R177): the bytes of a good frame, and the bytes that are examined again. -/

namespace Sys2Proof.Machine

/-! ## Bytes examined from HUNT -/

/-- What the receiver makes of bytes that arrive one after another from HUNT. -/
def scan (bytes : List Byte) : RxResult := examine (bytes.length + 1) bytes

theorem dropWhile_length_le (bytes : List Byte) : (bytes.dropWhile (· != syncByte)).length ≤ bytes.length :=
  (List.dropWhile_suffix _).length_le

/-- As many rounds as there are bytes suffice. -/
theorem examine_eq_scan : ∀ (fuel : Nat) (bytes : List Byte), bytes.length < fuel → examine fuel bytes = scan bytes := by
  intro fuel
  induction fuel using Nat.strong_induction_on with
  | _ fuel ih =>
    intro bytes hlen
    obtain ⟨n, rfl⟩ : ∃ n, fuel = n + 1 := ⟨fuel - 1, by omega⟩
    have hdrop := dropWhile_length_le bytes
    unfold scan examine
    split
    · rfl
    · rfl
    · rfl
    · rename_i c lo hi body hbytes
      rw [hbytes] at hdrop
      simp only [List.length_cons] at hdrop
      have hagain : examine n (lo :: hi :: body) = examine bytes.length (lo :: hi :: body) := by
        rw [ih n (by omega) _ (by simp only [List.length_cons]; omega)]
        rcases Nat.lt_or_ge bytes.length (n + 1) with h | h
        · exact (ih bytes.length h _ (by simp only [List.length_cons]; omega)).symm
        · omega
      have hafter : ∀ k, examine n (body.drop k) = examine bytes.length (body.drop k) := by
        intro k
        have hk : (body.drop k).length ≤ body.length := by simp
        rw [ih n (by omega) _ (by omega)]
        exact (ih bytes.length hlen _ (by omega)).symm
      simp only [hagain, hafter]

theorem scan_nil : scan [] = { receiver := Receiver.hunting, events := [] } := rfl

/-- A byte other than the sync is dropped in HUNT. -/
theorem scan_cons_of_ne {b : Byte} (h : b ≠ syncByte) (bytes : List Byte) : scan (b :: bytes) = scan bytes := by
  rw [← examine_eq_scan (bytes.length + 2) bytes (by omega)]
  simp [scan, examine, h]

/-- What the bytes after a sync and its length bytes come to (R175, R176). -/
def scanBody (lo hi : Byte) (body : List Byte) : RxResult :=
  let length := lo.toNat + 256 * hi.toNat
  let again := scan (lo :: hi :: body)
  let after := scan (body.drop (length + 1))
  if length < 2 ∨ 1026 < length then { again with events := .discard :: again.events }
  else if body.length < length then { receiver := { state := .body, kept := lo :: hi :: body }, events := [] }
  else if body.length = length then { receiver := { state := .check, kept := lo :: hi :: body }, events := [] }
  else if byteSum (lo :: hi :: body.take (length + 1)) = 0 then
    { after with events := .frame (frameOfBody body length) :: after.events }
  else { again with events := .discard :: again.events }

theorem scan_sync_body (lo hi : Byte) (body : List Byte) : scan (syncByte :: lo :: hi :: body) = scanBody lo hi body := by
  have hagain := examine_eq_scan (body.length + 3) (lo :: hi :: body) (by simp)
  have hafter := examine_eq_scan (body.length + 3) (body.drop (lo.toNat + 256 * hi.toNat + 1)) (by simp; omega)
  simp only [scanBody, ← hagain, ← hafter]
  rfl

/-- A frame whose length is out of range or whose checksum fails is discarded (R176). -/
def discards (lo hi : Byte) (body : List Byte) : Prop :=
  let length := lo.toNat + 256 * hi.toNat
  (length < 2 ∨ 1026 < length) ∨ (length < body.length ∧ byteSum (lo :: hi :: body.take (length + 1)) ≠ 0)

/-- A frame in progress: 2 to 1026 bytes of body, and the checksum, are still to come in part. -/
def inProgress (lo hi : Byte) (body : List Byte) : Prop :=
  let length := lo.toNat + 256 * hi.toNat
  2 ≤ length ∧ length ≤ 1026 ∧ body.length ≤ length

theorem scan_discards {lo hi : Byte} {body : List Byte} (h : discards lo hi body) :
    scan (syncByte :: lo :: hi :: body) =
      { receiver := (scan (lo :: hi :: body)).receiver, events := .discard :: (scan (lo :: hi :: body)).events } := by
  rw [scan_sync_body]
  unfold scanBody
  dsimp only
  rcases h with hlength | ⟨hlong, hsum⟩
  · rw [if_pos hlength]
  · split
    · rfl
    · rw [if_neg (by omega), if_neg (by omega)]

theorem scan_inProgress {lo hi : Byte} {body : List Byte} (h : inProgress lo hi body) :
    scan (syncByte :: lo :: hi :: body) =
      { receiver := { state := if body.length < lo.toNat + 256 * hi.toNat then .body else .check, kept := lo :: hi :: body }
        events := [] } := by
  obtain ⟨h1, h2, h3⟩ := h
  rw [scan_sync_body]
  unfold scanBody
  dsimp only
  rw [if_neg (by omega)]
  split
  · rfl
  · rw [if_pos (by omega)]

theorem scan_frame {lo hi : Byte} {body : List Byte} (h1 : 2 ≤ lo.toNat + 256 * hi.toNat) (h2 : lo.toNat + 256 * hi.toNat ≤ 1026)
    (hlong : lo.toNat + 256 * hi.toNat < body.length)
    (hsum : byteSum (lo :: hi :: body.take (lo.toNat + 256 * hi.toNat + 1)) = 0) :
    scan (syncByte :: lo :: hi :: body) =
      { receiver := (scan (body.drop (lo.toNat + 256 * hi.toNat + 1))).receiver
        events := .frame (frameOfBody body (lo.toNat + 256 * hi.toNat)) ::
          (scan (body.drop (lo.toNat + 256 * hi.toNat + 1))).events } := by
  rw [scan_sync_body]
  unfold scanBody
  dsimp only
  rw [if_neg (by omega), if_neg (by omega), if_neg (by omega), if_pos hsum]

/-! ## A byte more -/

theorem Receiver.take_eq_scan (rx : Receiver) (b : Byte) : rx.take b = scan (rx.held b) := rfl

theorem Receiver.held_of_state {state : RxState} (h : state ≠ .hunt) (kept : List Byte) (b : Byte) :
    ({ state := state, kept := kept } : Receiver).held b = syncByte :: (kept ++ [b]) := by
  cases state with
  | hunt => exact absurd rfl h
  | length | body | check => rfl

/-- A byte that arrives is examined behind the bytes before it, as if all of them arrived again. -/
def ScansOn (bytes : List Byte) (b : Byte) : Prop :=
  scan (bytes ++ [b]) =
    { receiver := ((scan bytes).receiver.take b).receiver
      events := (scan bytes).events ++ ((scan bytes).receiver.take b).events }

theorem scansOn_of_inProgress {kept : List Byte} {state : RxState} (hstate : state ≠ .hunt)
    (h : scan (syncByte :: kept) = { receiver := { state := state, kept := kept }, events := [] }) (b : Byte) :
    ScansOn (syncByte :: kept) b := by
  rw [ScansOn, h, Receiver.take_eq_scan, Receiver.held_of_state hstate]
  rfl

theorem discards_append {lo hi : Byte} {body : List Byte} (h : discards lo hi body) (b : Byte) : discards lo hi (body ++ [b]) := by
  rcases h with hlength | ⟨hlong, hsum⟩
  · exact .inl hlength
  · refine .inr ⟨by simp; omega, ?_⟩
    rwa [List.take_append_of_le_length (by omega)]

theorem good_of_not {lo hi : Byte} {body : List Byte} (h : ¬ discards lo hi body) (h' : ¬ inProgress lo hi body) :
    2 ≤ lo.toNat + 256 * hi.toNat ∧ lo.toNat + 256 * hi.toNat ≤ 1026 ∧ lo.toNat + 256 * hi.toNat < body.length ∧
      byteSum (lo :: hi :: body.take (lo.toNat + 256 * hi.toNat + 1)) = 0 := by
  simp only [discards, not_or, not_and, ne_eq, not_not] at h
  simp only [inProgress, not_and, not_le] at h'
  obtain ⟨⟨h1, h2⟩, hsum⟩ := h
  have hlong := h' (by omega) (by omega)
  exact ⟨by omega, by omega, hlong, hsum hlong⟩

theorem frameOfBody_append {body more : List Byte} {length : Nat} (h : length < body.length) (h2 : 2 ≤ length) :
    frameOfBody (body ++ more) length = frameOfBody body length := by
  simp only [frameOfBody, List.take_append_of_le_length (Nat.le_of_lt h)]
  rw [List.getD_append _ _ _ _ (by omega), List.getD_append _ _ _ _ (by omega)]

theorem scansOn (bytes : List Byte) (b : Byte) : ScansOn bytes b := by
  induction hn : bytes.length using Nat.strong_induction_on generalizing bytes with
  | _ n ih =>
    match bytes, hn with
    | [], _ => rfl
    | c :: rest, hn =>
      by_cases hc : c = syncByte
      · subst hc
        match rest, hn with
        | [], _ => exact scansOn_of_inProgress (state := .length) (by decide) rfl b
        | [lo], _ => exact scansOn_of_inProgress (state := .length) (by decide) rfl b
        | lo :: hi :: body, hn =>
          have hagain : ScansOn (lo :: hi :: body) b := ih (body.length + 2) (by simp at hn; omega) _ rfl
          by_cases hdiscards : discards lo hi body
          · rw [ScansOn, List.cons_append, List.cons_append, List.cons_append, scan_discards hdiscards,
              scan_discards (discards_append hdiscards b), ← List.cons_append, ← List.cons_append, hagain]
            rfl
          · by_cases hprogress : inProgress lo hi body
            · refine scansOn_of_inProgress ?_ (scan_inProgress hprogress) b
              split <;> decide
            · obtain ⟨h1, h2, hlong, hsum⟩ := good_of_not hdiscards hprogress
              have hafter : ScansOn (body.drop (lo.toNat + 256 * hi.toNat + 1)) b :=
                ih _ (by simp at hn ⊢; omega) _ rfl
              rw [ScansOn, List.cons_append, List.cons_append, List.cons_append, scan_frame h1 h2 hlong hsum,
                scan_frame h1 h2 (by simp; omega) (by rwa [List.take_append_of_le_length (by omega)]),
                List.drop_append_of_le_length (by omega), hafter, frameOfBody_append hlong h1]
              rfl
      · have hrest : ScansOn rest b := ih rest.length (by simp at hn; omega) rest rfl
        rw [ScansOn, List.cons_append, scan_cons_of_ne hc, scan_cons_of_ne hc]
        exact hrest

/-! ## The receiver beside the rest of the part -/

/-- The part with another receiver. -/
def State.withReceiver (s : State) (rx : Receiver) : State := s.onLink fun k => { k with receiver := rx }

@[simp] theorem State.rd_withReceiver (s : State) (rx : Receiver) (r : ReaderId) : (s.withReceiver rx).rd r = s.rd r := by
  cases r <;> rfl

@[simp] theorem State.readerA_withReceiver (s : State) (rx : Receiver) : (s.withReceiver rx).readerA = s.readerA := rfl
@[simp] theorem State.readerB_withReceiver (s : State) (rx : Receiver) : (s.withReceiver rx).readerB = s.readerB := rfl
@[simp] theorem State.queue_withReceiver (s : State) (rx : Receiver) : (s.withReceiver rx).queue = s.queue := rfl

@[simp] theorem State.onReader_withReceiver (s : State) (rx : Receiver) (r : ReaderId) (f : Reader → Reader) :
    (s.withReceiver rx).onReader r f = (s.onReader r f).withReceiver rx := by
  cases r <;> rfl

@[simp] theorem State.onQueue_withReceiver (s : State) (rx : Receiver) (f : ReportQueue → ReportQueue) :
    (s.withReceiver rx).onQueue f = (s.onQueue f).withReceiver rx := rfl

@[simp] theorem State.offer_withReceiver (s : State) (rx : Receiver) (r : ReaderId) (b : ReportBody) :
    (s.withReceiver rx).offer r b = (s.offer r b).withReceiver rx := rfl

@[simp] theorem State.conditions_withReceiver (s : State) (rx : Receiver) (r : ReaderId) :
    (s.withReceiver rx).conditions r = s.conditions r := by
  cases r <;> rfl

@[simp] theorem State.fireWatch_withReceiver (s : State) (rx : Receiver) (r : ReaderId) (c : BitVec 16) :
    (s.withReceiver rx).fireWatch r c = (s.fireWatch r c).withReceiver rx := by
  simp [State.fireWatch]

@[simp] theorem State.evaluateWatch_withReceiver (s : State) (rx : Receiver) (r : ReaderId) :
    (s.withReceiver rx).evaluateWatch r = (s.evaluateWatch r).withReceiver rx := by
  simp only [State.evaluateWatch, State.rd_withReceiver, State.conditions_withReceiver, State.fireWatch_withReceiver]
  split <;> rfl

@[simp] theorem State.evaluateWatches_withReceiver (s : State) (rx : Receiver) :
    (s.withReceiver rx).evaluateWatches = s.evaluateWatches.withReceiver rx := by
  have hfree : (s.withReceiver rx).freeTick = s.freeTick := rfl
  unfold State.evaluateWatches
  simp only [hfree, State.rd_withReceiver, State.conditions_withReceiver, State.fireWatch_withReceiver,
    State.evaluateWatch_withReceiver]
  split
  · split <;> rfl
  · split
    · rfl
    · split <;> rfl

/-- An answer whose state has another receiver. -/
def Answer.withReceiver (a : Answer) (rx : Receiver) : Answer := { a with state := a.state.withReceiver rx }

@[simp] theorem answer_withReceiver (s : State) (rx : Receiver) (status : Status) (fields : List Byte) :
    answer (s.withReceiver rx) status fields = (answer s status fields).withReceiver rx := rfl

@[simp] theorem startPoint_withReceiver (r : ReaderId) (s : State) (rx : Receiver) :
    startPoint r (s.withReceiver rx) = (startPoint r s).withReceiver rx := by
  unfold startPoint
  simp only [State.rd_withReceiver, State.onReader_withReceiver]
  split <;> simp

@[simp] theorem offerStuckChanges_withReceiver (s : State) (rx : Receiver) (r : ReaderId) (old : Reader) (i : Nat) :
    (s.withReceiver rx).offerStuckChanges r old i = (s.offerStuckChanges r old i).withReceiver rx := by
  have hlane : ∀ (s : State) (c : LaneCause) (a b : Bool),
      (s.withReceiver rx).offerLane r c a b i = (s.offerLane r c a b i).withReceiver rx := by
    intro s c a b
    simp only [State.offerLane, State.rd_withReceiver, State.offer_withReceiver]
    split <;> rfl
  simp only [State.offerStuckChanges, State.rd_withReceiver, hlane]

theorem takeMasked_withReceiver (mask : Byte) (acts : Reader → Bool) (f : Reader → Reader) (s : State) (rx : Receiver) :
    takeMasked mask acts f (s.withReceiver rx) = (takeMasked mask acts f s).withReceiver rx := by
  unfold takeMasked
  split
  · dsimp only [State.readerA_withReceiver, State.readerB_withReceiver]
    generalize (maskNames mask .a && acts s.readerA) = okA
    generalize (maskNames mask .b && acts s.readerB) = okB
    cases okA <;> cases okB <;> rfl
  · rfl

/-- What a request does and answers does not depend on the receiver. -/
theorem takeForReader_withReceiver (r : ReaderId) (q : Request) (s : State) (rx : Receiver) :
    takeForReader r q (s.withReceiver rx) = (takeForReader r q s).withReceiver rx := by
  cases q with
  | strt _ m o f =>
    simp only [takeForReader, takeStrt, State.rd_withReceiver, State.onReader_withReceiver, startPoint_withReceiver]
    repeat' split
    all_goals rfl
  | stop _ =>
    simp only [takeForReader, takeStop, State.rd_withReceiver, State.onReader_withReceiver, offerStuckChanges_withReceiver]
    split <;> rfl
  | byps _ x =>
    simp only [takeForReader, takeByps, State.rd_withReceiver, State.onReader_withReceiver]
    repeat' split
    all_goals rfl
  | setw _ ws =>
    simp only [takeForReader, takeSetw, State.onReader_withReceiver]
    repeat' split
    all_goals rfl
  | setr _ x =>
    simp only [takeForReader, takeSetr, State.rd_withReceiver]
    repeat' split
    all_goals rfl
  | setc _ =>
    simp only [takeForReader, takeSetc, State.rd_withReceiver, State.onReader_withReceiver]
    repeat' split
    all_goals rfl
  | hold m => exact takeMasked_withReceiver m (fun x => !x.params.hold) _ s rx
  | rels m => exact takeMasked_withReceiver m (fun x => x.params.hold) _ s rx
  | sync m => exact takeMasked_withReceiver m (fun x => (x.params.holder .staged).isSome) _ s rx
  | splm _ f =>
    simp only [takeForReader, takeSplm, State.rd_withReceiver, State.onReader_withReceiver]
    repeat' split
    all_goals rfl
  | splc _ f =>
    simp only [takeForReader, takeSplc, State.rd_withReceiver, State.onReader_withReceiver]
    split <;> rfl
  | exca _ f g =>
    simp only [takeForReader, takeExca, State.rd_withReceiver, State.onReader_withReceiver]
    repeat' split
    all_goals rfl
  | excr _ f =>
    simp only [takeForReader, takeExcr, State.rd_withReceiver, State.onReader_withReceiver]
    split <;> rfl
  | capa _ k p m =>
    simp only [takeForReader, takeCapa, State.rd_withReceiver, State.onReader_withReceiver]
    repeat' split
    all_goals rfl
  | capr _ l o n =>
    simp only [takeForReader, takeCapr, State.rd_withReceiver]
    repeat' split
    all_goals rfl
  | capx _ =>
    simp only [takeForReader, takeCapx, State.rd_withReceiver, State.onReader_withReceiver]
    split <;> rfl
  | wtch _ m x =>
    simp only [takeForReader, takeWtch, State.onReader_withReceiver, State.conditions_withReceiver]
    repeat' split
    all_goals rfl
  | wtcd _ =>
    simp only [takeForReader, takeWtcd, State.rd_withReceiver, State.onReader_withReceiver]
    split <;> rfl
  | rept x =>
    have hon : (s.withReceiver rx).queue.enabled = s.queue.enabled := rfl
    by_cases hset : x = 0 ∨ x = 1
    · by_cases hen : s.queue.enabled = decide (x = 1)
      · simp only [takeForReader, takeRept, hon, if_pos hset, if_pos hen]
        rfl
      · simp only [takeForReader, takeRept, hon, if_pos hset, if_neg hen]
        rfl
    · simp only [takeForReader, takeRept, if_neg hset]
      rfl
  | stat _ =>
    cases r <;> rfl
  | spll _ | excl _ | humr _ =>
    cases r <;> rfl
  | idnt | rset => rfl

theorem judgeRequest_withReceiver (q : Request) (s : State) (rx : Receiver) :
    judgeRequest q (s.withReceiver rx) = (judgeRequest q s).withReceiver rx := by
  unfold judgeRequest
  simp only [takeForReader_withReceiver]
  repeat' split
  all_goals rfl

theorem takeFrame_withReceiver (f : Frame) (s : State) (rx : Receiver) :
    takeFrame f (s.withReceiver rx) = (takeFrame f s).withReceiver rx := by
  have houtstanding : ∀ (type tag : Byte) (isRset : Bool) (a : Answer),
      becomeOutstanding type tag isRset (a.withReceiver rx) = (becomeOutstanding type tag isRset a).withReceiver rx :=
    fun type tag isRset a => State.evaluateWatches_withReceiver (a.state.onLink fun k =>
      { k with reply := some { type := replyType type, tag := tag, payload := a.payload, isRset := isRset } }) rx
  simp only [takeFrame, takeRequest, judgeRequest_withReceiver, answer_withReceiver, houtstanding]
  split <;> rfl

/-- What the receiver hands on acts on the rest of the part. -/
theorem act_withReceiver (s : State) (rx : Receiver) (e : RxEvent) :
    RxEvent.act (s.withReceiver rx) e = (RxEvent.act s e).withReceiver rx := by
  cases e with
  | discard => rfl
  | frame f =>
    change dispatchFrame f (s.withReceiver rx) = (dispatchFrame f s).withReceiver rx
    have hreply : (s.withReceiver rx).link.reply = s.link.reply := rfl
    have hpending : (s.withReceiver rx).link.pendingRequest = s.link.pendingRequest := rfl
    simp only [dispatchFrame, holdFrame, hreply, hpending, takeFrame_withReceiver]
    split
    · rfl
    · split <;> rfl

theorem acts_withReceiver (events : List RxEvent) (s : State) (rx : Receiver) :
    events.foldl RxEvent.act (s.withReceiver rx) = (events.foldl RxEvent.act s).withReceiver rx := by
  induction events generalizing s with
  | nil => rfl
  | cons e events ih => rw [List.foldl_cons, act_withReceiver, ih, List.foldl_cons]

/-! ## The arbiter beside the rest of the link -/

/-- A change of the link that the arbiter neither sees nor undoes. -/
theorem arbitrate_onLink (s : State) (g : Link → Link) (htx : ∀ k : Link, (g k).transmitter = k.transmitter)
    (hreply : ∀ k : Link, (g k).reply = k.reply)
    (hset : ∀ (k : Link) (x : Transmitter), g { k with transmitter := x } = { g k with transmitter := x }) :
    (s.onLink g).arbitrate = s.arbitrate.onLink g := by
  unfold State.arbitrate
  have htx' : (s.onLink g).link.transmitter = s.link.transmitter := htx s.link
  have hreply' : (s.onLink g).link.reply = s.link.reply := hreply s.link
  have hcts : (s.onLink g).cts = s.cts := rfl
  have hqueue : (s.onLink g).queue = s.queue := rfl
  have hlink : ∀ (u : State) (x : Transmitter), (u.onLink g).onLink (fun k => { k with transmitter := x }) =
      (u.onLink fun k => { k with transmitter := x }).onLink g := by
    intro u x
    exact congrArg (fun k => { u with link := k }) (hset u.link x).symm
  have honQueue : ∀ f, (s.onLink g).onQueue f = (s.onQueue f).onLink g := fun _ => rfl
  simp only [htx', hreply', hcts, hqueue, honQueue, hlink]
  repeat' split
  all_goals rfl

theorem arbitrate_withReceiver (s : State) (rx : Receiver) : (s.withReceiver rx).arbitrate = s.arbitrate.withReceiver rx :=
  arbitrate_onLink s (fun k => { k with receiver := rx }) (fun _ => rfl) (fun _ => rfl) fun _ _ => rfl

theorem arbitrate_discardFrame (s : State) : (discardFrame s).arbitrate = discardFrame s.arbitrate :=
  arbitrate_onLink s (fun k => { k with linkFault := true }) (fun _ => rfl) (fun _ => rfl) fun _ _ => rfl

theorem arbitrate_holdFrame (f : Frame) (s : State) : (holdFrame f s).arbitrate = holdFrame f s.arbitrate := by
  have hpending : s.arbitrate.link.pendingRequest = s.link.pendingRequest := (State.arbitrate_settles s).1.pendingRequest
  unfold holdFrame
  rw [hpending]
  split
  · exact arbitrate_onLink s (fun k => { k with pendingRequest := some f }) (fun _ => rfl) (fun _ => rfl) fun _ _ => rfl
  · exact arbitrate_discardFrame s

/-- Once it has chosen, the arbiter has nothing more to choose. -/
theorem arbitrate_arbitrate (s : State) : s.arbitrate.arbitrate = s.arbitrate := by
  by_cases hidle : s.arbitrate.link.transmitter = .idle
  · by_cases hcts : s.arbitrate.cts = true
    · obtain ⟨hreply, hqueue⟩ := State.arbitrate_idle hidle hcts
      exact State.arbitrate_of_none hreply hqueue
    · exact State.arbitrate_of_negated (by simpa using hcts)
  · have hbusy : ∀ u : State, u.link.transmitter ≠ .idle → u.arbitrate = u := by
      intro u hu
      unfold State.arbitrate
      split
      · rfl
      · rfl
      · rename_i htx
        exact absurd htx hu
    exact hbusy _ hidle

/-! ## The arbiter between the bytes -/

/-- The arbiter has nothing to choose, or a reply is outstanding. -/
def ArbiterRests (s : State) : Prop := s.arbitrate = s ∨ s.link.reply ≠ none

theorem reply_of_takeFrame (f : Frame) (s : State) : (takeFrame f s).link.reply ≠ none := by
  have houtstanding : ∀ (type tag : Byte) (isRset : Bool) (a : Answer), (becomeOutstanding type tag isRset a).link.reply ≠ none := by
    intro type tag isRset a
    unfold becomeOutstanding
    rw [(State.evaluateWatches_settles _).1.reply]
    nofun
  unfold takeFrame
  split <;> exact houtstanding _ _ _ _

theorem reply_of_holdFrame (f : Frame) (s : State) : (holdFrame f s).link.reply = s.link.reply := by
  unfold holdFrame
  split <;> rfl

theorem ArbiterRests.act {s : State} (h : ArbiterRests s) (e : RxEvent) : ArbiterRests (RxEvent.act s e) := by
  cases e with
  | discard =>
    rcases h with hrests | hreply
    · refine .inl ?_
      change (discardFrame s).arbitrate = _
      rw [arbitrate_discardFrame, hrests]
      rfl
    · exact .inr hreply
  | frame f =>
    refine .inr ?_
    change (dispatchFrame f s).link.reply ≠ none
    unfold dispatchFrame
    split
    · exact reply_of_takeFrame f s
    · rename_i rep hrep
      rw [reply_of_holdFrame, hrep]
      nofun

theorem ArbiterRests.acts {s : State} (h : ArbiterRests s) (events : List RxEvent) : ArbiterRests (events.foldl RxEvent.act s) := by
  induction events generalizing s with
  | nil => exact h
  | cons e events ih => exact ih (h.act e)

/-- Where a reply is outstanding, the arbiter may choose before or after what the receiver hands on. -/
theorem arbitrate_act {s : State} (hreply : s.link.reply ≠ none) (e : RxEvent) :
    (RxEvent.act s e).arbitrate = RxEvent.act s.arbitrate e := by
  cases e with
  | discard => exact arbitrate_discardFrame s
  | frame f =>
    change (dispatchFrame f s).arbitrate = dispatchFrame f s.arbitrate
    unfold dispatchFrame
    rw [(State.arbitrate_settles s).1.reply]
    split
    · rename_i hnone
      exact absurd hnone hreply
    · exact arbitrate_holdFrame f s

theorem arbitrate_acts {s : State} (h : ArbiterRests s) (events : List RxEvent) :
    (events.foldl RxEvent.act s.arbitrate).arbitrate = (events.foldl RxEvent.act s).arbitrate := by
  rcases h with hrests | hreply
  · rw [hrests]
  · induction events generalizing s with
    | nil => exact arbitrate_arbitrate s
    | cons e events ih =>
      rw [List.foldl_cons, ← arbitrate_act hreply e, List.foldl_cons]
      refine ih fun hnone => ?_
      cases e with
      | discard => exact hreply hnone
      | frame f =>
        change (dispatchFrame f s).link.reply = none at hnone
        unfold dispatchFrame at hnone
        split at hnone
        · exact reply_of_takeFrame f s hnone
        · exact hreply ((reply_of_holdFrame f s).symm.trans hnone)

/-! ## Bytes received one after another -/

/-- What bytes that arrive from HUNT leave, the arbiter choosing once behind them. -/
def State.scanned (s : State) (bytes : List Byte) : State :=
  (((scan bytes).events.foldl RxEvent.act s).withReceiver (scan bytes).receiver).arbitrate

theorem exec_receiveByte (b : Byte) (s : State) :
    exec (.receiveByte b false) s =
      .next (((s.link.receiver.take b).events.foldl RxEvent.act s).withReceiver (s.link.receiver.take b).receiver).arbitrate := by
  rw [← acts_withReceiver]
  rfl

theorem receiveAll_append (bytes more : List Byte) (s t : State) (h : receiveAll bytes s = .next t) :
    receiveAll (bytes ++ more) s = receiveAll more t := by
  induction bytes generalizing s with
  | nil => cases h; rfl
  | cons b bytes ih =>
    rw [List.cons_append, receiveAll]
    rw [receiveAll] at h
    revert h
    cases exec (.receiveByte b false) s with
    | next u => exact ih u
    | fault f => nofun
    | refused x => nofun

theorem withReceiver_self {s : State} {rx : Receiver} (h : s.link.receiver = rx) : s.withReceiver rx = s := by
  subst h
  rfl

/-- Bytes received one after another from HUNT bring about what they spell together. -/
theorem receiveAll_scan {s : State} (hhunt : s.link.receiver = Receiver.hunting) (hrests : s.arbitrate = s) (bytes : List Byte) :
    receiveAll bytes s = .next (s.scanned bytes) := by
  induction bytes using List.reverseRecOn with
  | nil =>
    have hself : s.scanned [] = s := by
      rw [State.scanned, scan_nil, List.foldl_nil, withReceiver_self hhunt, hrests]
    rw [hself]
    rfl
  | append_singleton bytes b ih =>
    have hacts : ArbiterRests ((scan bytes).events.foldl RxEvent.act s) := ArbiterRests.acts (.inl hrests) _
    have hreceiver : (s.scanned bytes).link.receiver = (scan bytes).receiver := by
      rw [State.scanned, arbitrate_withReceiver]
      rfl
    have hon : scan (bytes ++ [b]) = _ := scansOn bytes b
    rw [receiveAll_append bytes [b] s _ ih, receiveAll, exec_receiveByte, hreceiver]
    refine congrArg Host.Outcome.next ?_
    simp only [State.scanned, hon, List.foldl_append]
    rw [arbitrate_withReceiver (List.foldl RxEvent.act s _), acts_withReceiver]
    change (State.withReceiver (List.foldl RxEvent.act _ _) _).arbitrate = _
    rw [arbitrate_withReceiver, arbitrate_acts hacts, ← arbitrate_withReceiver]

/-- Bytes behind which nothing was handed on but a discarded frame leave the receiver where they leave it. -/
theorem scan_short_events {bytes : List Byte} (h : bytes.length ≤ 2) : (scan bytes).events = [] := by
  match bytes, h with
  | [], _ => rfl
  | [a], _ =>
    by_cases ha : a = syncByte
    · subst ha
      rfl
    · rw [scan_cons_of_ne ha]
      rfl
  | [a, b], _ =>
    by_cases ha : a = syncByte
    · subst ha
      rfl
    · rw [scan_cons_of_ne ha]
      exact scan_short_events (by simp)

/-- A byte behind which nothing is handed on moves the receiver, and the arbiter chooses. -/
theorem exec_receiveByte_silent {b : Byte} {s : State} (h : (s.link.receiver.take b).events = []) :
    exec (.receiveByte b false) s = .next (s.arbitrate.withReceiver (s.link.receiver.take b).receiver) := by
  rw [exec_receiveByte, h, List.foldl_nil, arbitrate_withReceiver]

/-! ## The frame of a request (R174) -/

/-- The bytes of a good frame come to that frame, and leave the receiver in HUNT. -/
theorem scan_frameBytes (type tag : Byte) (payload : List Byte) (h : payload.length ≤ 1024) :
    scan (frameBytes type tag payload) =
      { receiver := Receiver.hunting, events := [.frame { type := type, tag := tag, payload := payload }] } := by
  have hle : ∀ n : Nat, n < 65536 → ∃ lo hi : Byte, le 2 n = [lo, hi] ∧ lo.toNat + 256 * hi.toNat = n := by
    intro n hn
    refine ⟨BitVec.ofNat 8 n, BitVec.ofNat 8 (n / 256), rfl, ?_⟩
    simp only [BitVec.toNat_ofNat]
    omega
  obtain ⟨lo, hi, hbytes, hlength⟩ := hle (payload.length + 2) (by omega)
  have hframe : frameBytes type tag payload =
      syncByte :: lo :: hi :: ((type :: tag :: payload) ++ [-byteSum (lo :: hi :: type :: tag :: payload)]) := by
    simp [frameBytes, hbytes]
  have hbody : (type :: tag :: payload).length = lo.toNat + 256 * hi.toNat := by
    simp [hlength]
  have hsum : ∀ bs : List Byte, byteSum (bs ++ [-byteSum bs]) = 0 := by
    intro bs
    simp [byteSum, List.foldl_append]
  have htake : ((type :: tag :: payload) ++ [-byteSum (lo :: hi :: type :: tag :: payload)]).take (lo.toNat + 256 * hi.toNat + 1) =
      (type :: tag :: payload) ++ [-byteSum (lo :: hi :: type :: tag :: payload)] :=
    List.take_of_length_le (by simp [← hbody])
  have hdrop : ((type :: tag :: payload) ++ [-byteSum (lo :: hi :: type :: tag :: payload)]).drop (lo.toNat + 256 * hi.toNat + 1) = [] :=
    List.drop_of_length_le (by simp [← hbody])
  rw [hframe, scan_frame (by omega) (by omega) (by simp [← hbody]) (by rw [htake]; exact hsum (lo :: hi :: type :: tag :: payload)), hdrop, scan_nil]
  have hpayload : ((type :: tag :: payload) ++ [-byteSum (lo :: hi :: type :: tag :: payload)]).take (lo.toNat + 256 * hi.toNat) =
      type :: tag :: payload := by
    rw [← hbody, List.take_left]
  simp only [frameOfBody, hpayload]
  rfl

/-- Settles O57: the bytes of a frame are scanned to that frame, which acts as its row. -/
theorem receivedFrameActsAsItsRequest : Obligations.ReceivedFrameActsAsItsRequest := by
  unfold Obligations.ReceivedFrameActsAsItsRequest
  intro c tag q s hc hwf hhunt hrests
  have hlen : q.payload.length ≤ 1024 := (Laws.Fits.holds c hwf tag q hc).1
  rw [receiveAll_scan hhunt hrests, exec_of_request hc, State.scanned, scan_frameBytes _ _ _ hlen]
  change Host.Outcome.next ((RxEvent.act s (.frame (q.frame tag))).withReceiver Receiver.hunting).arbitrate = _
  rw [← act_withReceiver, withReceiver_self (rx := Receiver.hunting) hhunt]
  exact congrArg (fun u : State => Host.Outcome.next u.arbitrate) (dispatchFrame_of_wf hc hwf s)

/-- The part with the frame in progress discarded: back in HUNT, with a link fault. -/
def State.discarded (s : State) : State := s.onLink fun k => { k with receiver := Receiver.hunting, linkFault := true }

theorem State.discarded_eq (s : State) : s.discarded = (discardFrame s).withReceiver Receiver.hunting := rfl

theorem discardFrame_arbitrate_withReceiver (s : State) (rx : Receiver) :
    (discardFrame s).arbitrate.withReceiver rx = s.discarded.arbitrate.withReceiver rx := by
  rw [s.discarded_eq, arbitrate_withReceiver]
  rfl

theorem discarded_rests {s : State} (h : s.arbitrate = s) : s.discarded.arbitrate = s.discarded := by
  have hcommutes : s.discarded.arbitrate = s.arbitrate.discarded :=
    arbitrate_onLink s (fun k => { k with receiver := Receiver.hunting, linkFault := true }) (fun _ => rfl) (fun _ => rfl) fun _ _ => rfl
  rw [hcommutes, h]

/-- Settles O58: each case by what its bytes are scanned to. -/
theorem receiverHuntsAndDiscards : Obligations.ReceiverHuntsAndDiscards := by
  unfold Obligations.ReceiverHuntsAndDiscards
  refine ⟨fun b s => ⟨fun hhunt => ⟨?framing, ?gap, ?byte⟩, fun hmid => ⟨?framingMid, ?gapMid⟩⟩, ?badLength, ?badSum⟩
  case framing =>
    apply completes_of_arbitrate
    change Host.Outcome.next (receiveByte b true s).arbitrate = _
    simp only [receiveByte, hhunt, if_pos]
  case gap =>
    apply completes_of_arbitrate
    change Host.Outcome.next (interByteTimeout s).arbitrate = _
    simp only [interByteTimeout, hhunt]
  case byte =>
    apply completes_of_arbitrate
    have htake : s.link.receiver.take b = scan [b] := by rw [hhunt]; rfl
    rw [exec_receiveByte, htake, scan_short_events (by simp)]
    split
    · rename_i hb
      subst hb
      rfl
    · rename_i hb
      rw [scan_cons_of_ne hb, scan_nil, List.foldl_nil, withReceiver_self (rx := Receiver.hunting) hhunt]
  case framingMid =>
    apply completes_of_arbitrate
    change Host.Outcome.next (receiveByte b true s).arbitrate = _
    cases hstate : s.link.receiver.state with
    | hunt => exact absurd hstate hmid
    | length | body | check =>
      simp only [receiveByte, hstate, if_pos]
      rfl
  case gapMid =>
    apply completes_of_arbitrate
    change Host.Outcome.next (interByteTimeout s).arbitrate = _
    cases hstate : s.link.receiver.state with
    | hunt => exact absurd hstate hmid
    | length | body | check =>
      simp only [interByteTimeout, hstate]
      rfl
  case badLength =>
    intro lo hi s hrx hlength
    change _ = receiveAll [lo, hi] s.discarded
    have htake : s.link.receiver.take hi = scan (syncByte :: lo :: hi :: []) := by rw [hrx]; rfl
    have hone : (s.discarded.link.receiver.take lo) = scan [lo] := rfl
    have hon : scan ([lo] ++ [hi]) = _ := scansOn [lo] hi
    have hsilent := scan_short_events (bytes := [lo, hi]) (by simp)
    have hsecond : ((scan [lo]).receiver.take hi).events = [] := by
      rw [List.singleton_append] at hon
      rw [hon] at hsilent
      exact (List.append_eq_nil_iff.mp hsilent).2
    rw [exec_receiveByte, htake, scan_discards (.inl hlength), hsilent, receiveAll,
      exec_receiveByte_silent (by rw [hone]; exact scan_short_events (by simp)), hone]
    change _ = receiveAll [hi] (s.discarded.arbitrate.withReceiver (scan [lo]).receiver)
    rw [receiveAll, exec_receiveByte_silent hsecond]
    rw [arbitrate_withReceiver, arbitrate_withReceiver, arbitrate_arbitrate]
    have hreceiver : (scan [lo, hi]).receiver = ((scan [lo]).receiver.take hi).receiver :=
      (congrArg RxResult.receiver hon :)
    rw [hreceiver]
    exact congrArg Host.Outcome.next (discardFrame_arbitrate_withReceiver s _)
  case badSum =>
    intro lo hi b body s hrx hbody h1 h2 hsum hrests
    change _ = receiveAll (lo :: hi :: (body ++ [b])) s.discarded
    have htake : s.link.receiver.take b = scan (syncByte :: lo :: hi :: (body ++ [b])) := by rw [hrx]; rfl
    have hdiscards : discards lo hi (body ++ [b]) := by
      refine .inr ⟨by simp [← hbody], ?_⟩
      rw [List.take_of_length_le (by simp [← hbody])]
      exact hsum
    rw [exec_receiveByte, htake, scan_discards hdiscards, receiveAll_scan rfl (discarded_rests hrests), State.scanned,
      s.discarded_eq, acts_withReceiver]
    rfl

end Sys2Proof.Machine
end

section
/-! The events that act on the reader's own state alone: R3, R4, R15, R16, R19, R53, R67, R100, R130. -/

namespace Sys2Proof.Machine

/-- A started reader is RUNNING or BYPASSED (R6). -/
theorem Reader.started_iff {rd : Reader} : rd.started = true ↔ rd.state = .running ∨ rd.state = .bypassed := by
  unfold Reader.started
  cases rd.state <;> simp

theorem Reader.eventsAct_of {rd : Reader} (hclock : rd.clockLost = false) (h : rd.state = .running ∨ rd.state = .bypassed) :
    rd.eventsAct = true := by
  simp [Reader.eventsAct, Reader.started_iff.mpr h, hclock]

/-! ## Entry events before the start point -/

/-- Settles O30: an entry event that judges nothing moves the windows. -/
theorem entryBeforeStartMovesWindows : Obligations.EntryBeforeStartMovesWindows := by
  unfold Obligations.EntryBeforeStartMovesWindows
  intro r x0 x1 first s
  refine ⟨fun hlost => ?_, fun hclock hstate => ?_⟩
  · apply completes_of_arbitrate
    change Host.Outcome.next (entryEvent r x0 x1 first s).arbitrate = _
    rw [entryEvent, if_pos hlost]
  · apply completes_of_arbitrate
    change Host.Outcome.next (entryEvent r x0 x1 first s).arbitrate = _
    rcases hstate with h | h <;> simp only [entryEvent, hclock, h, if_neg Bool.false_ne_true] <;> rfl

/-! ## Small events -/

/-- Settles O47: the conditions of each row make it due. -/
theorem smallReaderEvents : Obligations.SmallReaderEvents := by
  unfold Obligations.SmallReaderEvents
  intro r l s hclock rd
  refine ⟨fun hstate happlied hrun hquiet => ?_, fun hstate => ?_, fun hstate => ?_, fun hstate hon hcount => ?_⟩
  · have hdue : (rd.judgementsAct && rd.saturationDue l) = true := by
      simpa [Reader.judgementsAct, Reader.saturationDue, hstate, happlied, hclock, hrun, rd] using hquiet
    apply completes_of_arbitrate
    change Host.Outcome.next (if (s.rd r).judgementsAct && (s.rd r).saturationDue l then _ else _ : State).arbitrate = _
    rw [if_pos hdue]
    rfl
  · apply completes_of_arbitrate
    change Host.Outcome.next (if (s.rd r).eventsAct then _ else _ : State).arbitrate = _
    rw [if_pos (Reader.eventsAct_of hclock hstate)]
    refine congrArg (fun u : State => Host.Outcome.next u.arbitrate) (State.onReader_congr ?_)
    simp [Reader.removeLeft, Defect.leaves]
  · apply completes_of_arbitrate
    change Host.Outcome.next (if (s.rd r).eventsAct then _ else _ : State).arbitrate = _
    rw [if_pos (Reader.eventsAct_of hclock hstate)]
    rfl
  · have hdue : rd.hissBlockDue l = true := by
      simp [Reader.hissBlockDue, Hiss.blockDue, hstate, hon, hcount]
    apply completes_of_arbitrate
    change Host.Outcome.next (if (s.rd r).hissBlockDue l then _ else _ : State).arbitrate = _
    rw [if_pos hdue]
    rfl

/-! ## The clock and stuck lanes -/

/-- A LANE report that names a lane, then the watches and the arbiter: it ends where it began, with the report. -/
theorem offerLane_settles {s s1 : State} (hqueue : s1.queue = s.queue) (r : ReaderId) (cause : LaneCause) (lane0 lane1 : Bool)
    (index : Nat) (hnames : (lane0 || lane1) = true) :
    Ends s1 (s1.offerLane r cause lane0 lane1 index).evaluateWatches.arbitrate ∧
      Reports s (s1.offerLane r cause lane0 lane1 index).evaluateWatches.arbitrate
        (s.kept (r, .lane cause lane0 lane1 (s1.rd r).lane0.stuck (s1.rd r).lane1.stuck (s1.rd r).clockLost
          (s1.rd r).monitor.frameCount index)) := by
  have hsettles := (State.evaluateWatches_settles (s1.offerLane r cause lane0 lane1 index)).trans (State.arbitrate_settles _)
  refine ⟨(offerLane_ends s1 r cause lane0 lane1 index).trans hsettles.1, Reports.trans ?_ hsettles.2⟩
  rw [← State.kept_congr hqueue]
  unfold State.offerLane
  dsimp only
  rw [if_pos hnames]
  exact (reports_offer s1 r _).of_queue hqueue.symm rfl

theorem LaneState.stuck_becomeStuck (ln : LaneState) (p : ParamSet) : (ln.becomeStuck p).stuck = (ln.stuck || ln.stuckDue p) := by
  unfold LaneState.becomeStuck
  split
  · rename_i hdue
    simp [hdue]
  · rename_i hdue
    simp [hdue]

/-- Settles O44: each event's own effect, with its LANE report. -/
theorem clockAndStuckLaneConditionsChange : Obligations.ClockAndStuckLaneConditionsChange := by
  unfold Obligations.ClockAndStuckLaneConditionsChange
  dsimp only
  refine ⟨fun r s => ⟨fun hclock => ⟨?back, ?lost⟩, fun hlost => ⟨?lostAgain, ?regain⟩⟩, fun r s hdue => ?stuck⟩
  case back =>
    apply completes_of_arbitrate
    change Host.Outcome.next (regainClock r s).arbitrate = _
    rw [regainClock, if_neg (by simp [hclock])]
  case lostAgain =>
    apply completes_of_arbitrate
    change Host.Outcome.next (loseClock r s).arbitrate = _
    rw [loseClock, if_pos hlost]
  case lost =>
    let s1 := s.onReader r fun x => { x with clockLost := true, output := none, monitor := x.monitor.loseClock }
    have hreader : s1.rd r = _ := State.rd_onReader_self s r _
    obtain ⟨hends, hreports⟩ := offerLane_settles (State.onReader_queue s r _ : s1.queue = s.queue) r .clockLost true true
      (s.rd r).index rfl
    have hindex : (s1.rd r).index = (s.rd r).index := by rw [hreader]; rfl
    refine ⟨_, ?_, hends, ?_⟩
    · change Host.Outcome.next (loseClock r s).arbitrate = _
      rw [loseClock, if_neg (by simp [hclock])]
      change Host.Outcome.next (s1.offerLane r .clockLost true true (s1.rd r).index).evaluateWatches.arbitrate = _
      rw [hindex]
    · rw [hreader] at hreports
      exact hreports
  case regain =>
    let s1 := s.onReader r fun x => { x with clockLost := false }
    have hreader : s1.rd r = _ := State.rd_onReader_self s r _
    obtain ⟨hends, hreports⟩ := offerLane_settles (State.onReader_queue s r _ : s1.queue = s.queue) r .clockBack true true
      (s.rd r).index rfl
    have hindex : (s1.rd r).index = (s.rd r).index := by rw [hreader]; rfl
    refine ⟨_, ?_, hends, ?_⟩
    · change Host.Outcome.next (regainClock r s).arbitrate = _
      rw [regainClock, if_pos hlost]
      change Host.Outcome.next (s1.offerLane r .clockBack true true (s1.rd r).index).evaluateWatches.arbitrate = _
      rw [hindex]
    · rw [hreader] at hreports
      exact hreports
  case stuck =>
    let s1 := s.onReader r fun x => x.onLanes (·.becomeStuck x.active)
    have hreader : s1.rd r = _ := State.rd_onReader_self s r _
    have hchanged : ∀ ln : LaneState, (!ln.stuck && (ln.becomeStuck (s.rd r).active).stuck) = ln.stuckDue (s.rd r).active ∧
        (ln.stuck && !(ln.becomeStuck (s.rd r).active).stuck) = false := by
      intro ln
      rw [LaneState.stuck_becomeStuck]
      unfold LaneState.stuckDue
      cases ln.stuck <;> simp
    have hfirst : s1.offerStuckChanges r (s.rd r) (index48 ((s.rd r).entered - 1)) =
        s1.offerLane r .stuck ((s.rd r).lane0.stuckDue (s.rd r).active) ((s.rd r).lane1.stuckDue (s.rd r).active)
          (index48 ((s.rd r).entered - 1)) := by
      simp only [State.offerStuckChanges, hreader, Reader.onLanes, (hchanged _).1, (hchanged _).2, State.offerLane_none]
    have hnames : ((s.rd r).lane0.stuckDue (s.rd r).active || (s.rd r).lane1.stuckDue (s.rd r).active) = true := by
      unfold Reader.stuckDue at hdue
      exact (Bool.and_eq_true_iff.mp hdue).2
    obtain ⟨hends, hreports⟩ := offerLane_settles (State.onReader_queue s r _ : s1.queue = s.queue) r .stuck _ _
      (index48 ((s.rd r).entered - 1)) hnames
    refine ⟨_, ?_, (congrArg (fun u => Ends u _) (State.onReader_congr ?_)).mp hends, ?_⟩
    · change Host.Outcome.next (if (s.rd r).stuckDue then lanesBecomeStuck r s else s).arbitrate = _
      rw [if_pos hdue, lanesBecomeStuck, hfirst]
    · rfl
    · rw [hreader] at hreports
      exact hreports

end Sys2Proof.Machine
end

section
/-! The commit (R78, R79, R82, R165, R166): the capture slot, the record, and the reader it leaves. -/

namespace Sys2Proof.Machine

/-! ## The capture slot -/

/-- The slot takes the defect: it is ARMED, and the defect qualifies (R165). -/
def Reader.takesCopy (rd : Reader) (d : Defect) : Bool := rd.capture.state == .armed && rd.capture.qualifier.admits d

/-- The capture slot after a commit has offered it a defect (R165, R166). -/
def Reader.captureAfter (rd : Reader) (d : Defect) (number : Nat) : Capture :=
  if rd.takesCopy d then rd.capturing d number
  else { rd.capture with missed := rd.capture.missed || (rd.capture.state == .held && rd.capture.qualifier.admits d) }

/-- The CAPD report of a capture (R166). -/
def Reader.capdOf (rd : Reader) (d : Defect) (number : Nat) : ReportBody :=
  .capd number (!rd.capture.toggle) d.lanes.code (index48 (captureFirst rd.entered d)) (captureCount rd.entered d)

theorem State.onReader_self {s : State} {r : ReaderId} {f : Reader → Reader} (h : f (s.rd r) = s.rd r) : s.onReader r f = s := by
  cases r
  · exact congrArg (fun x => { s with readerA := x }) h
  · exact congrArg (fun x => { s with readerB := x }) h

/-- The slot stands where it neither takes the defect nor marks it missed. -/
theorem Reader.captureAfter_self {rd : Reader} {d : Defect} (htakes : rd.takesCopy d = false)
    (hmissed : (rd.capture.state == .held && rd.capture.qualifier.admits d) = false) (number : Nat) :
    { rd with capture := rd.captureAfter d number } = rd := by
  have hcapture : rd.captureAfter d number = rd.capture := by
    rw [Reader.captureAfter, htakes, if_neg Bool.false_ne_true, hmissed, Bool.or_false]
  rw [hcapture]

/-- What the capture slot does with a defect that it is offered. -/
theorem offerCapture_eq (r : ReaderId) (d : Defect) (number : Nat) (s : State) :
    offerCapture r d number s =
      (let s1 := s.onReader r fun x => { x with capture := x.captureAfter d number }
       (if (s.rd r).takesCopy d then s1.offer r ((s.rd r).capdOf d number) else s1, (s.rd r).takesCopy d)) := by
  unfold offerCapture
  dsimp only
  split
  · rename_i hstate
    have htakes : (s.rd r).takesCopy d = false := by simp [Reader.takesCopy, hstate]
    rw [htakes, if_neg Bool.false_ne_true, State.onReader_self (Reader.captureAfter_self htakes (by simp [hstate]) number)]
  · rename_i hstate
    have htakes : (s.rd r).takesCopy d = false := by simp [Reader.takesCopy, hstate]
    rw [htakes, if_neg Bool.false_ne_true]
    split
    · rename_i hadmits
      refine congrArg (fun u : State => (u, false)) (State.onReader_congr ?_)
      simp [Reader.captureAfter, htakes, hstate, hadmits]
    · rename_i hadmits
      rw [State.onReader_self (Reader.captureAfter_self htakes (by simp [hadmits]) number)]
  · rename_i hstate
    split
    · rename_i hadmits
      have htakes : (s.rd r).takesCopy d = true := by simp [Reader.takesCopy, hstate, hadmits]
      rw [htakes, if_pos rfl]
      refine congrArg (fun u : State => (u.offer r _, true)) (State.onReader_congr ?_)
      simp [Reader.captureAfter, htakes]
    · rename_i hadmits
      have htakes : (s.rd r).takesCopy d = false := by simp [Reader.takesCopy, hadmits]
      rw [htakes, if_neg Bool.false_ne_true, State.onReader_self (Reader.captureAfter_self htakes (by simp [hadmits]) number)]

/-! ## The reader and the queue after a commit -/

/-- The reader after a commit past the log gate (R82). -/
def Reader.recorded (rd : Reader) (k : Nat) (d : Defect) (complete : Bool) : Reader :=
  let m := rd.chooseMethod d complete
  { rd with
    nextNumber := numberAfter rd.nextNumber
    committedTotal := holdingSucc (2 ^ 32 - 1) rd.committedTotal
    gap := false
    capture := rd.captureAfter d rd.nextNumber
    table := rd.table.set k
      { d with state := .committed, method := some m, number := some rd.nextNumber, captured := rd.takesCopy d }
    lane0 := { rd.lane0 with window := rd.repairedWindow .lane0 d m }
    lane1 := { rd.lane1 with window := rd.repairedWindow .lane1 d m } }

/-- The reader after a commit that the log gate refuses (R79). -/
def Reader.refused (rd : Reader) (k : Nat) (d : Defect) : Reader :=
  rd.countUnrecorded.setEntry k { d with state := .committed, method := some .unrecorded }

/-- The queue after a commit past the log gate: its CAPD report, where it is kept, and its DFCT record (R82). -/
def State.recordedQueue (s : State) (r : ReaderId) (d : Defect) (complete : Bool) : ReportQueue :=
  let rd := s.rd r
  let held := s.queue.hold
  let offered := if rd.takesCopy d then held.offer { reader := r, lost := false, body := rd.capdOf d rd.nextNumber } else held
  offered.fill { reader := r, lost := false
                 body := .dfct { d.fields (rd.chooseMethod d complete) rd.nextNumber rd.monitor.frameCount (rd.takesCopy d) with
                   gapBefore := rd.gap } }

theorem State.onReader_onQueue (s : State) (r : ReaderId) (f : Reader → Reader) (g : ReportQueue → ReportQueue) :
    (s.onReader r f).onQueue g = (s.onQueue g).onReader r f := by
  cases r <;> rfl

theorem State.onQueue_onQueue (s : State) (f g : ReportQueue → ReportQueue) : (s.onQueue f).onQueue g = s.onQueue fun q => g (f q) := rfl

theorem offerWhere_eq (s : State) (r : ReaderId) (f : Reader → Reader) (b : Bool) (body : ReportBody) :
    (if b then (s.onReader r f).offer r body else s.onReader r f) =
      (s.onQueue fun q => if b then q.offer { reader := r, lost := false, body := body } else q).onReader r f := by
  cases b <;> cases r <;> rfl

/-- The steps of R82 on the reader come to the reader after the commit. -/
theorem Reader.recorded_eq (rd : Reader) (k : Nat) (d : Defect) (complete : Bool) :
    (({ { { rd with nextNumber := numberAfter rd.nextNumber } with
        capture := ({ rd with nextNumber := numberAfter rd.nextNumber }).captureAfter d rd.nextNumber } with
        gap := false }.repair d (rd.chooseMethod d complete)).countCommitted).setEntry k
      { d with
        state := .committed, method := some (rd.chooseMethod d complete), number := some rd.nextNumber
        captured := rd.takesCopy d } = rd.recorded k d complete := rfl

theorem commitRecorded_eq (r : ReaderId) (k : Nat) (d : Defect) (complete : Bool) (s : State) :
    commitRecorded r k d complete s =
      (s.onReader r fun x => x.recorded k d complete).onQueue fun _ => s.recordedQueue r d complete := by
  unfold commitRecorded queueDfct
  simp only [offerCapture_eq]
  have htakes : ((takeNumber r (s.onQueue ReportQueue.hold)).rd r).takesCopy d = (s.rd r).takesCopy d := by
    cases r <;> rfl
  have hcapd : ((takeNumber r (s.onQueue ReportQueue.hold)).rd r).capdOf d (s.rd r).nextNumber =
      (s.rd r).capdOf d (s.rd r).nextNumber := by
    cases r <;> rfl
  rw [htakes, hcapd]
  simp only [offerWhere_eq, takeNumber, State.onReader_onReader, State.onReader_onQueue, State.onQueue_onQueue,
    State.rd_onReader_self, State.rd_onQueue]
  refine (congrArg (fun u : State => u.onReader r _) ?queue).trans (State.onReader_congr ?reader)
  case queue => rfl
  case reader =>
    rw [State.rd_onQueue]
    exact (s.rd r).recorded_eq k d complete

theorem commitAt_eq {r : ReaderId} {k : Nat} {d : Defect} {s : State} (h : (s.rd r).table[k]? = some d) (complete : Bool) :
    commitAt r k complete s =
      if s.queue.grants then (s.onReader r fun x => x.recorded k d complete).onQueue fun _ => s.recordedQueue r d complete
      else s.onReader r fun x => x.refused k d := by
  unfold commitAt
  rw [h]
  dsimp only
  rw [commitRecorded_eq]
  rfl

/-- One position of a window after a repair (R82, R84 to R87). -/
theorem Reader.repairedWindow_at (rd : Reader) (l : Lane) (d : Defect) (m : Method) (p : Nat) :
    (rd.repairedWindow l d m)[p]? = ((rd.lane l).window[p]?).map fun c =>
      if m.replaces = true ∧ d.lanes.has l = true ∧ p < rd.entered ∧ d.spanStart ≤ rd.entered - 1 - p ∧
        rd.entered - 1 - p ≤ d.spanEnd then
        { c with sample := sampleOf (rd.replacement l d m (rd.entered - 1 - p - d.spanStart)) }
      else c := by
  unfold Reader.repairedWindow
  by_cases hrepairs : m.replaces = true ∧ d.lanes.has l = true
  · obtain ⟨hm, hl⟩ := hrepairs
    rw [hm, hl, Bool.and_self, if_pos rfl]
    simp only [writeSpan, List.getElem?_mapIdx, true_and]
  · have hnot : (m.replaces && d.lanes.has l) = false := by
      rw [Bool.and_eq_false_iff]
      by_contra hno
      simp only [not_or, Bool.not_eq_false] at hno
      exact hrepairs hno
    rw [hnot, if_neg Bool.false_ne_true]
    have hcond : ∀ c : Cell, (if m.replaces = true ∧ d.lanes.has l = true ∧ p < rd.entered ∧ d.spanStart ≤ rd.entered - 1 - p ∧
        rd.entered - 1 - p ≤ d.spanEnd then
        { c with sample := sampleOf (rd.replacement l d m (rd.entered - 1 - p - d.spanStart)) } else c) = c :=
      fun c => if_neg fun h => hrepairs ⟨h.1, h.2.1⟩
    simp only [hcond, Option.map_id']

theorem ReportQueue.grants_iff {q : ReportQueue} : q.grants = true ↔ q.dfctOccupied < 56 ∧ q.occupied < 64 := by
  simp [ReportQueue.grants]

/-- The queue after the capture slot's part in a commit, its DFCT place held (R157, R158, R166). -/
def State.offeredQueue (s : State) (r : ReaderId) (d : Defect) : ReportQueue :=
  if (s.rd r).takesCopy d then
    s.queue.hold.offer { reader := r, lost := false, body := (s.rd r).capdOf d (s.rd r).nextNumber }
  else s.queue.hold

theorem State.offeredQueue_spec (s : State) (r : ReaderId) (d : Defect) :
    (s.offeredQueue r d).bodies = s.queue.bodies ++
        (if (s.rd r).takesCopy d = true ∧ s.queue.records.length + 1 < 64 then [(r, (s.rd r).capdOf d (s.rd r).nextNumber)] else []) ∧
      (s.offeredQueue r d).lost = (s.queue.lost || ((s.rd r).takesCopy d && decide (64 ≤ s.queue.records.length + 1))) ∧
      (s.offeredQueue r d).enabled = s.queue.enabled := by
  unfold State.offeredQueue
  cases (s.rd r).takesCopy d with
  | false =>
    refine ⟨?_, ?_, rfl⟩
    · rw [if_neg Bool.false_ne_true, if_neg (by simp), List.append_nil]
      rfl
    · rw [if_neg Bool.false_ne_true, Bool.false_and, Bool.or_false]
      rfl
  | true =>
    have hoccupied : s.queue.hold.occupied = s.queue.records.length + 1 := rfl
    obtain ⟨_, henabled, hlost⟩ := ReportQueue.offer_flags s.queue.hold
      { reader := r, lost := false, body := (s.rd r).capdOf d (s.rd r).nextNumber }
    refine ⟨?_, ?_, henabled⟩
    · rw [if_pos rfl, ReportQueue.bodies_offer, hoccupied]
      simp only [true_and]
      rfl
    · rw [if_pos rfl, hlost, hoccupied, Bool.true_and]
      refine congrArg (s.queue.lost || ·) ?_
      rw [← decide_not, decide_eq_decide]
      omega

/-- Settles O50: the log gate's two outcomes, from the reader and the queue that each leaves. -/
theorem commitIsUnrecordedOrRecorded : Obligations.CommitIsUnrecordedOrRecorded := by
  unfold Obligations.CommitIsUnrecordedOrRecorded
  refine ⟨fun r k d complete s hk hfull => ?_, fun r k d complete s hk hdfct hoccupied => ?_⟩
  · have hgate : s.queue.grants = false := by
      rw [← Bool.not_eq_true, ReportQueue.grants_iff]
      omega
    rw [commitAt_eq hk, hgate]
    rfl
  · have hgate : s.queue.grants = true := ReportQueue.grants_iff.mpr ⟨hdfct, hoccupied⟩
    have ht := (commitAt_eq hk complete).trans (if_pos hgate)
    intro rd n t m q qualifies takes first count copied capture capd
    refine ⟨?bodies, ?lost, ?placeHeld, ?enabled, ?link, ?other, ?reader, fun l p => rd.repairedWindow_at l d m p⟩
    case link => exact (congrArg State.link ht).trans (State.onReader_link s r _)
    case other =>
      change (commitAt r k complete s).rd (otherReader r) = _
      rw [ht, State.rd_onQueue, State.rd_onReader_of_ne _ _ _ _ (otherReader_ne r)]
    all_goals
      have hqueue : t.queue = (s.offeredQueue r d).fill _ := congrArg State.queue ht
      obtain ⟨hbodies, hlost, henabled⟩ := s.offeredQueue_spec r d
    case bodies =>
      rw [hqueue, (ReportQueue.bodies_fill _ _).1, hbodies]
      rfl
    case lost =>
      rw [hqueue]
      exact hlost
    case placeHeld => rw [hqueue, (ReportQueue.bodies_fill _ _).2]
    case enabled =>
      rw [hqueue]
      exact henabled
    case reader =>
      change (commitAt r k complete s).rd r = _
      rw [ht, State.rd_onQueue, State.rd_onReader_self]
      rfl

end Sys2Proof.Machine
end

section
/-! The table's work beside the rest of the reader: what the defect table, the detectors, the capture slot and the watches
change, and what they leave. -/

open Relation (ReflTransGen)

namespace Sys2Proof.Machine

/-! ## The two parts of a reader -/

/-- A lane without what the table's work changes: its detector and the values in its window. -/
def LaneState.still (ln : LaneState) : LaneState :=
  { ln with window := ln.window.map fun c => { c with sample := 0 }, detector := Detector.reset }

/-- A reader without what the table's work and the watches change. -/
def Reader.still (rd : Reader) : Reader :=
  { rd with
    lane0 := rd.lane0.still, lane1 := rd.lane1.still, table := [], unrecorded := 0, gap := false, nextNumber := 1
    committedTotal := 0, capture := Capture.reset, watch := Watch.reset }

/-- What the table's work moves, but for the window's values and the gap flag. -/
structure Moving where
  table : List Defect
  unrecorded : Nat
  nextNumber : Nat
  committedTotal : Nat
  capture : Capture
  detector0 : Detector
  detector1 : Detector

def Reader.moving (rd : Reader) : Moving :=
  { table := rd.table, unrecorded := rd.unrecorded, nextNumber := rd.nextNumber, committedTotal := rd.committedTotal
    capture := rd.capture, detector0 := rd.lane0.detector, detector1 := rd.lane1.detector }

/-- A reader's function that reads no more of it than it leaves to the table's work. -/
def Still (f : Reader → Reader) : Prop := ∀ rd, (f rd).still = (f rd.still).still

/-- The table keeps within its places and in its order (R63). -/
def TableSound (t : List Defect) : Prop := t.length ≤ 32 ∧ t.Pairwise fun x y => x.spanStart ≤ y.spanStart

/-- A change of a lane's detector. -/
def Reader.onDetector (rd : Reader) (l : Lane) (f : Detector → Detector) : Reader :=
  rd.onLane l fun ln => { ln with detector := f ln.detector }

/-- A MISSED splice is recorded (R90). -/
def Reader.recordMissed (rd : Reader) : Reader :=
  { rd with
    nextNumber := numberAfter rd.nextNumber, gap := false, committedTotal := holdingSucc (2 ^ 32 - 1) rd.committedTotal }

/-- One act of the table's work. -/
inductive TableAct (rd : Reader) : Reader → Prop
  | record (k : Nat) (d : Defect) (complete : Bool) (hk : rd.table[k]? = some d) : TableAct rd (rd.recorded k d complete)
  | refuse (k : Nat) (d : Defect) (hk : rd.table[k]? = some d) : TableAct rd (rd.refused k d)
  | missed : TableAct rd rd.recordMissed
  | count : TableAct rd rd.countUnrecorded
  | table (t : List Defect) (h : TableSound rd.table → TableSound t) : TableAct rd { rd with table := t }
  | detector (l : Lane) (f : Detector → Detector)
      (h : (rd.lane l).detector.Sound → (f (rd.lane l).detector).Sound) : TableAct rd (rd.onDetector l f)

/-- Acts of the table's work, among changes that leave what they move. -/
def Acts : Reader → Reader → Prop := ReflTransGen fun a b => TableAct a b ∨ b.moving = a.moving

/-- A gap flag that is set in s stands in t, or a DFCT record between them carries it (R81). -/
def TellsGap (r : ReaderId) (s t : State) : Prop :=
  (s.rd r).gap = true → (t.rd r).gap = true ∨ ∃ f : DfctFields, f.gapBefore = true ∧
    (r, ReportBody.dfct f) ∈ t.queue.bodies.drop s.queue.bodies.length

theorem TellsGap.trans {r : ReaderId} {s t u : State} (hst : s.queue.bodies <+: t.queue.bodies)
    (htu : t.queue.bodies <+: u.queue.bodies) (a : TellsGap r s t) (b : TellsGap r t u) : TellsGap r s u := by
  obtain ⟨behind, hbehind⟩ := hst
  obtain ⟨more, hmore⟩ := htu
  intro h
  rcases a h with hgap | ⟨f, hf, hmem⟩
  · refine (b hgap).imp_right fun ⟨f, hf, hmem⟩ => ⟨f, hf, ?_⟩
    rw [← hmore, List.drop_left] at hmem
    rw [← hmore, ← hbehind, List.append_assoc, List.drop_left]
    exact List.mem_append_right _ hmem
  · refine .inr ⟨f, hf, ?_⟩
    rw [← hbehind, List.drop_left] at hmem
    rw [← hmore, ← hbehind, List.append_assoc, List.drop_left]
    exact List.mem_append_left _ hmem

/-- From s to t the reader comes to x, beside the table's work; and reports join the queue behind those before. -/
structure Yields (r : ReaderId) (s t : State) (x : Reader) : Prop where
  still : (t.rd r).still = x.still
  acts : Acts (s.rd r) (t.rd r)
  grows : s.queue.bodies <+: t.queue.bodies
  tells : TellsGap r s t

/-- From s to t the reader does no more than the table's work. -/
abbrev Works (r : ReaderId) (s t : State) : Prop := Yields r s t (s.rd r)

theorem Works.refl (r : ReaderId) (s : State) : Works r s s := ⟨rfl, .refl, List.prefix_refl _, .inl⟩

theorem Yields.trans {r : ReaderId} {s t u : State} {x : Reader} {g : Reader → Reader} (hg : Still g) (a : Yields r s t x)
    (b : Yields r t u (g (t.rd r))) : Yields r s u (g x) := by
  refine ⟨?_, ReflTransGen.trans a.acts b.acts, a.grows.trans b.grows, .trans a.grows b.grows a.tells b.tells⟩
  rw [b.still, hg, a.still, ← hg]

/-- Work behind a change. -/
theorem Yields.work {r : ReaderId} {s t u : State} {x : Reader} (a : Yields r s t x) (b : Works r t u) : Yields r s u x :=
  ⟨b.still.trans a.still, ReflTransGen.trans a.acts b.acts, a.grows.trans b.grows, .trans a.grows b.grows a.tells b.tells⟩

/-- A change of the reader that leaves what the table's work moves. -/
theorem yields_onReader (s : State) (r : ReaderId) (f : Reader → Reader) (h : (f (s.rd r)).moving = (s.rd r).moving)
    (hgap : (f (s.rd r)).gap = (s.rd r).gap := by rfl) : Yields r s (s.onReader r f) (f (s.rd r)) := by
  refine ⟨by rw [State.rd_onReader_self], .single (.inr ?_), by rw [State.onReader_queue], fun h => .inl ?_⟩
  · rwa [State.rd_onReader_self]
  · rw [State.rd_onReader_self, hgap, h]

theorem writeSpan_still (w : List Cell) (n lo hi : Nat) (y : Nat → Int) :
    (writeSpan w n lo hi y).map (fun c => { c with sample := (0 : Sample) }) = w.map fun c => { c with sample := (0 : Sample) } := by
  apply List.ext_getElem
  · simp
  · intro i h1 h2
    simp only [writeSpan, List.getElem_map, List.getElem_mapIdx]
    split <;> rfl

theorem Reader.repairedWindow_still (rd : Reader) (l : Lane) (d : Defect) (m : Method) :
    (rd.repairedWindow l d m).map (fun c => { c with sample := (0 : Sample) }) =
      (rd.lane l).window.map fun c => { c with sample := (0 : Sample) } := by
  unfold Reader.repairedWindow
  split
  · exact writeSpan_still _ _ _ _ _
  · rfl

/-- One act of the table's work leaves the rest of the reader. -/
theorem TableAct.still {rd rd' : Reader} (h : TableAct rd rd') : rd'.still = rd.still := by
  cases h with
  | record k d complete =>
    simp only [Reader.recorded, Reader.still, LaneState.still, Reader.repairedWindow_still]
    rfl
  | refuse | missed | count | table => rfl
  | detector l f => cases l <;> rfl

theorem works_of_act {s : State} {r : ReaderId} {f : Reader → Reader} (h : TableAct (s.rd r) (f (s.rd r)))
    (hgap : (s.rd r).gap = true → (f (s.rd r)).gap = true := by exact id) : Works r s (s.onReader r f) := by
  refine ⟨?_, .single (.inl ?_), by rw [State.onReader_queue], fun h => .inl ?_⟩
  · rw [State.rd_onReader_self, h.still]
  · rwa [State.rd_onReader_self]
  · rw [State.rd_onReader_self, hgap h]

/-! ## Watches and reports -/

theorem still_of_calm {rd rd' : Reader} (h : rd'.calm = rd.calm) : rd'.still = rd.still :=
  show rd'.calm.still = rd.calm.still from congrArg Reader.still h

theorem moving_of_calm {rd rd' : Reader} (h : rd'.calm = rd.calm) : rd'.moving = rd.moving :=
  show rd'.calm.moving = rd.calm.moving from congrArg Reader.moving h

theorem Ends.calm {s t : State} (h : Ends s t) (r : ReaderId) : (t.rd r).calm = (s.rd r).calm := by
  cases r
  · exact h.readerA
  · exact h.readerB

theorem works_of_settles {s t : State} (h : Settles s t) (r : ReaderId) : Works r s t := by
  obtain ⟨alerts, hbodies, _⟩ := h.2
  refine ⟨still_of_calm (h.1.calm r), .single (.inr (moving_of_calm (h.1.calm r))), ?_,
    fun hgap => .inl ((congrArg Reader.gap (h.1.calm r) :).trans hgap)⟩
  rw [hbodies, List.append_nil]
  exact List.prefix_append _ _

theorem Yields.watches {r : ReaderId} {s t : State} {x : Reader} (h : Yields r s t x) : Yields r s t.evaluateWatches x :=
  h.work (works_of_settles (State.evaluateWatches_settles t) r)

theorem Yields.change {r : ReaderId} {s t : State} {x : Reader} (h : Yields r s t x) (old : State) :
    Yields r s (State.evaluateChange old t) x :=
  h.work (works_of_settles (State.evaluateChange_settles old t) r)

theorem Yields.arbitrate {r : ReaderId} {s t : State} {x : Reader} (h : Yields r s t x) : Yields r s t.arbitrate x :=
  h.work (works_of_settles (State.arbitrate_settles t) r)

theorem works_offer (s : State) (r k : ReaderId) (b : ReportBody) : Works r s (s.offer k b) := by
  refine ⟨by rw [State.rd_offer], .single (.inr (by rw [State.rd_offer])), ?_, fun h => .inl (by rw [State.rd_offer, h])⟩
  rw [State.bodies_offer]
  exact List.prefix_append _ _

theorem Yields.offer {r : ReaderId} {s t : State} {x : Reader} (h : Yields r s t x) (b : ReportBody) : Yields r s (t.offer r b) x :=
  h.work (works_offer t r r b)

theorem Yields.act {r : ReaderId} {s t : State} {x : Reader} (h : Yields r s t x) {f : Reader → Reader}
    (ha : TableAct (t.rd r) (f (t.rd r))) (hgap : (t.rd r).gap = true → (f (t.rd r)).gap = true := by exact id) :
    Yields r s (t.onReader r f) x :=
  h.work (works_of_act ha hgap)

/-! ## Commits -/

theorem State.recordedQueue_grows (s : State) (r : ReaderId) (d : Defect) (complete : Bool) :
    s.queue.bodies <+: (s.recordedQueue r d complete).bodies := by
  have hqueue : s.recordedQueue r d complete = (s.offeredQueue r d).fill _ := rfl
  rw [hqueue, (ReportQueue.bodies_fill _ _).1, (s.offeredQueue_spec r d).1, List.append_assoc]
  exact List.prefix_append _ _

/-- The DFCT record of a commit stands among the reports that it brings, with the gap flag as it found it (R81). -/
theorem State.recordedQueue_tells (s : State) (r : ReaderId) (d : Defect) (complete : Bool) :
    (r, ReportBody.dfct { d.fields ((s.rd r).chooseMethod d complete) (s.rd r).nextNumber (s.rd r).monitor.frameCount
        ((s.rd r).takesCopy d) with gapBefore := (s.rd r).gap }) ∈
      (s.recordedQueue r d complete).bodies.drop s.queue.bodies.length := by
  have hqueue : s.recordedQueue r d complete = (s.offeredQueue r d).fill _ := rfl
  rw [hqueue, (ReportQueue.bodies_fill _ _).1, (s.offeredQueue_spec r d).1, List.append_assoc, List.drop_left]
  exact List.mem_append_right _ List.mem_cons_self

theorem commitAt_works (r : ReaderId) (k : Nat) (complete : Bool) (s : State) : Works r s (commitAt r k complete s) := by
  cases hk : (s.rd r).table[k]? with
  | none =>
    unfold commitAt
    rw [hk]
    exact Works.refl r s
  | some d =>
    rw [commitAt_eq hk]
    split
    · have hrecord : TableAct (s.rd r) ((s.rd r).recorded k d complete) := .record k d complete hk
      refine ⟨?_, .single (.inl ?_), s.recordedQueue_grows r d complete, fun hgap => .inr ⟨_, hgap, s.recordedQueue_tells r d complete⟩⟩
      · rw [State.rd_onQueue, State.rd_onReader_self, hrecord.still]
      · rw [State.rd_onQueue, State.rd_onReader_self]
        exact hrecord
    · exact works_of_act (.refuse k d hk) fun _ => rfl

theorem commitWatched_works (r : ReaderId) (k : Nat) (complete : Bool) (s : State) : Works r s (commitWatched r k complete s) :=
  (commitAt_works r k complete s).change s

theorem foldl_works {α : Type} (r : ReaderId) (f : State → α → State) (hf : ∀ s x, Works r s (f s x)) (xs : List α) (s : State) :
    Works r s (xs.foldl f s) := by
  induction xs generalizing s with
  | nil => exact Works.refl r s
  | cons x xs ih => exact (hf s x).work (ih (f s x))

theorem commitAll_works (r : ReaderId) (ks : List Nat) (s : State) : Works r s (commitAll r ks s) :=
  foldl_works r _ (fun s k => commitWatched_works r k _ s) ks s

/-! ## Changes of the table -/

theorem TableSound.map {t : List Defect} (h : TableSound t) {f : Defect → Defect} (hf : ∀ d, (f d).spanStart = d.spanStart) :
    TableSound (t.map f) := by
  refine ⟨by simpa using h.1, ?_⟩
  rw [List.pairwise_map]
  simpa only [hf] using h.2

theorem TableSound.sublist {t u : List Defect} (h : TableSound t) (hu : u.Sublist t) : TableSound u :=
  ⟨hu.length_le.trans h.1, h.2.sublist hu⟩

theorem TableSound.set {t : List Defect} (h : TableSound t) {k : Nat} {d d' : Defect} (hk : t[k]? = some d)
    (hd : d'.spanStart = d.spanStart) : TableSound (t.set k d') := by
  refine ⟨by simpa using h.1, ?_⟩
  have hspans : (t.set k d').map (·.spanStart) = t.map (·.spanStart) := by
    obtain ⟨hlt, rfl⟩ := List.getElem?_eq_some_iff.mp hk
    rw [List.map_set, hd, ← List.map_set, List.set_getElem_self hlt]
  have hpairs : ∀ u : List Defect, u.Pairwise (fun x y => x.spanStart ≤ y.spanStart) ↔ (u.map (·.spanStart)).Pairwise (· ≤ ·) :=
    fun u => List.pairwise_map.symm
  rw [hpairs, hspans, ← hpairs]
  exact h.2

theorem TableSound.file {t : List Defect} (h : TableSound t) (hlen : t.length < 32) (d : Defect) : TableSound (fileDefect t d) := by
  refine ⟨?_, fileDefect_sorted t d h.2⟩
  rw [(fileDefect_perm t d).length_eq]
  exact hlen

theorem act_mapTable (rd : Reader) (test : Defect → Bool) {f : Defect → Defect} (hf : ∀ d, (f d).spanStart = d.spanStart) :
    TableAct rd (rd.mapTable test f) := by
  refine .table _ fun h => h.map fun d => ?_
  split
  · exact hf d
  · rfl

theorem cutEntries_works (r : ReaderId) (reached along : Defect → Bool) (s : State) : Works r s (cutEntries r reached along s) :=
  Yields.work (works_of_act (act_mapTable (s.rd r) _ (f := fun d => { d with cut := true }) fun _ => rfl)) (commitAll_works r _ _)

theorem act_setEntry {rd : Reader} {k : Nat} {d d' : Defect} (hk : rd.table[k]? = some d) (hd : d'.spanStart = d.spanStart) :
    TableAct rd (rd.setEntry k d') :=
  .table _ fun h => h.set hk hd

theorem commitAt_table_length (r : ReaderId) (k : Nat) (complete : Bool) (s : State) :
    ((commitAt r k complete s).rd r).table.length = (s.rd r).table.length := by
  cases hk : (s.rd r).table[k]? with
  | none =>
    unfold commitAt
    rw [hk]
  | some d =>
    rw [commitAt_eq hk]
    split
    · rw [State.rd_onQueue, State.rd_onReader_self]
      exact List.length_set
    · rw [State.rd_onReader_self]
      exact List.length_set

theorem table_of_settles {s t : State} (h : Settles s t) (r : ReaderId) : (t.rd r).table = (s.rd r).table :=
  congrArg Moving.table (moving_of_calm (h.1.calm r))

theorem commitAll_table_length (r : ReaderId) (ks : List Nat) (s : State) :
    ((commitAll r ks s).rd r).table.length = (s.rd r).table.length := by
  induction ks generalizing s with
  | nil => rfl
  | cons k ks ih =>
    refine (ih _).trans ?_
    exact (congrArg List.length (table_of_settles (State.evaluateChange_settles s _) r)).trans (commitAt_table_length r k _ s)

theorem cutEntries_table_length (r : ReaderId) (reached along : Defect → Bool) (s : State) :
    ((cutEntries r reached along s).rd r).table.length = (s.rd r).table.length := by
  refine (commitAll_table_length r _ _).trans ?_
  rw [State.rd_onReader_self]
  exact List.length_map _

/-! ## Runs and the detectors -/

theorem Detector.idle_sound {d : Detector} (h : d.Sound) : d.idle.Sound := by
  obtain ⟨hlow, hhigh, hhistory, _⟩ := h
  exact ⟨hlow, hhigh, hhistory, by simp [Detector.idle]⟩

theorem act_idle (rd : Reader) (l : Lane) : TableAct rd (rd.idleLane l) := .detector l _ Detector.idle_sound

@[simp] theorem Reader.table_onLane (rd : Reader) (l : Lane) (f : LaneState → LaneState) : (rd.onLane l f).table = rd.table := by
  cases l <;> rfl

theorem works_onDetector (s : State) (r : ReaderId) (l : Lane) (f : Detector → Detector)
    (h : (s.detector r l).Sound → (f (s.detector r l)).Sound) : Works r s (s.onDetector r l f) :=
  works_of_act (.detector l f h) fun hgap => (Reader.onLane_gap _ _ _).trans hgap

theorem Yields.detector {r : ReaderId} {s t : State} {x : Reader} (h : Yields r s t x) (l : Lane) {f : Detector → Detector}
    (hf : (t.detector r l).Sound → (f (t.detector r l)).Sound) : Yields r s (t.onDetector r l f) x :=
  h.work (works_onDetector t r l f hf)

theorem closeRun_works (r : ReaderId) (l : Lane) (finalEnd : Nat) (s : State) : Works r s (closeRun r l finalEnd s) := by
  unfold closeRun
  dsimp only
  have hidle : Works r s (s.onReader r fun x => x.idleLane l) :=
    works_of_act (act_idle _ l) fun hgap => (Reader.onLane_gap _ _ _).trans hgap
  have htable : ((s.onReader r fun x => x.idleLane l).rd r).table = (s.rd r).table := by
    rw [State.rd_onReader_self]
    exact Reader.table_onLane _ _ _
  split
  · exact hidle
  · rename_i d hd
    split
    · refine hidle.act (.table _ fun h => ?_)
      rw [htable] at h
      obtain ⟨hlt, _⟩ := List.getElem?_eq_some_iff.mp hd
      refine (h.sublist (List.filter_sublist.trans (List.eraseIdx_sublist _ _))).file ?_ _
      have hfilter := List.length_filter_le (fun x => !mergesWith l { d with spanEnd := finalEnd, state := .closed } x)
        ((s.rd r).table.eraseIdx ((s.rd r).table.findIdx (isRunOf l)))
      rw [List.length_eraseIdx_of_lt hlt] at hfilter
      have := h.1
      omega
    · have hset : Works r s ((s.onReader r fun x => x.idleLane l).onReader r fun x =>
          x.setEntry ((s.rd r).table.findIdx (isRunOf l)) { d with spanEnd := finalEnd, state := .closed }) :=
        hidle.act (act_setEntry (d := d) (by rw [htable]; exact hd) rfl)
      split
      · exact hset.work (commitWatched_works r _ _ _)
      · exact hset

theorem closeOverlong_works (r : ReaderId) (l : Lane) (s : State) : Works r s (closeOverlong r l s) := by
  unfold closeOverlong
  dsimp only
  have hcaught : Works r s (s.onReader r fun x => x.onLane l fun ln =>
      { ln with detector := { ln.detector.idle with run := .catchup } }) := by
    refine works_onDetector s r l (fun d => { d.idle with run := .catchup }) fun h => ?_
    obtain ⟨hlow, hhigh, hhistory, _⟩ := h
    exact ⟨hlow, hhigh, hhistory, by simp [Detector.idle]⟩
  split
  · exact hcaught
  · rename_i d hd
    refine Yields.work ?_ (commitWatched_works r _ _ _)
    refine hcaught.act (act_setEntry (d := d) ?_ rfl)
    rw [State.rd_onReader_self, Reader.table_onLane]
    exact hd

theorem act_growRun (rd : Reader) (l : Lane) (lastHot ratio : Nat) : TableAct rd (rd.growRun l lastHot ratio) :=
  act_mapTable _ _ fun _ => rfl

theorem openRun_works (r : ReaderId) (l : Lane) (e ratio : Nat) (twinOpens : Bool) (s : State)
    (hlen : (s.rd r).table.length < 32) : Works r s (openRun r l e ratio twinOpens s) := by
  unfold openRun
  dsimp only
  have hopened : ∀ {t : State}, Works r s t → (t.rd r).table.length < 32 →
      Works r s ((t.onReader r fun x => { x with table := fileDefect x.table (x.openedEntry l e ratio) }).onDetector r l
        fun d => { d with run := .run, quiet := 0, record := some { firstHot := e, lastHot := e } }) := by
    intro t ht hroom
    refine (ht.act (.table _ fun h => h.file hroom _)).detector l fun hd => ?_
    obtain ⟨hlow, hhigh, hhistory, _⟩ := hd
    exact ⟨hlow, hhigh, hhistory, by simp⟩
  have hcut := fun reached along => hopened (cutEntries_works r reached along s) (by rw [cutEntries_table_length]; exact hlen)
  split
  · exact (hcut _ _).work (closeOverlong_works r l _)
  · exact hcut _ _

theorem saturate_works (r : ReaderId) (l : Lane) (s : State) (hidle : (s.detector r l).run = .idle) :
    Works r s (saturate r l s) := by
  refine Yields.detector (works_of_act .count fun _ => rfl) l fun hd => ?_
  have hdetector : (s.onReader r Reader.countUnrecorded).detector r l = s.detector r l := by
    unfold State.detector
    rw [State.rd_onReader_self]
    cases l <;> rfl
  rw [hdetector] at hd ⊢
  obtain ⟨hlow, hhigh, hhistory, hrun⟩ := hd
  rw [hidle] at hrun
  exact ⟨hlow, hhigh, hhistory, by simpa using hrun⟩

theorem extendRun_works (r : ReaderId) (l : Lane) (e ratio : Nat) (s : State) : Works r s (extendRun r l e ratio s) := by
  unfold extendRun
  dsimp only
  have hdetector : Works r s (s.onDetector r l fun d =>
      { d with quiet := 0, record := d.record.map fun x => { x with lastHot := e } }) := by
    refine works_onDetector s r l _ fun hd => ?_
    obtain ⟨hlow, hhigh, hhistory, hrun⟩ := hd
    exact ⟨hlow, hhigh, hhistory, by simpa using hrun⟩
  have hgrown := hdetector.act (f := fun x => x.growRun l e ratio) (act_growRun _ l e ratio)
  split
  · exact hgrown.work (closeOverlong_works r l _)
  · exact hgrown

theorem endSaturation_works (r : ReaderId) (l : Lane) (s : State) : Works r s (endSaturation r l s) :=
  works_onDetector s r l _ Detector.idle_sound

theorem quietSample_works (r : ReaderId) (l : Lane) (s : State) : Works r s (quietSample r l s) := by
  unfold quietSample
  dsimp only
  have hquiet : Works r s (s.onDetector r l fun d => { d with quiet := d.quiet + 1 }) := works_onDetector s r l _ id
  split
  · exact hquiet.work (closeRun_works r l _ _)
  · split
    · exact hquiet.work (endSaturation_works r l _)
    · exact hquiet

theorem actOnRun_works (r : ReaderId) (l : Lane) (e : Nat) (hot covered : Bool) (ratio : Nat) (twinOpens : Bool) (s : State) :
    Works r s (actOnRun r l e hot covered ratio twinOpens s) := by
  unfold actOnRun
  split
  · rename_i hidle
    split
    · split
      · exact openRun_works r l e ratio twinOpens s ‹_›
      · exact saturate_works r l s hidle
    · exact Works.refl r s
  · split
    · exact extendRun_works r l e ratio s
    · exact quietSample_works r l s
  · split
    · exact Works.refl r s
    · exact endSaturation_works r l s
  · split
    · exact works_onDetector s r l _ id
    · exact quietSample_works r l s

theorem judgeSample_works (r : ReaderId) (l : Lane) (e : Nat) (x : Sample) (y : Option Sample) (s : State) :
    Works r s (judgeSample r l e x y s) := by
  unfold judgeSample
  dsimp only
  refine Yields.work ?_ (actOnRun_works r l e _ _ _ _ _)
  split
  · refine works_onDetector s r l _ fun hd => ?_
    obtain ⟨hlow, hhigh, hhistory, hrun⟩ := hd
    obtain ⟨hlow', hhigh'⟩ := envelopeAfter_bounds (s.rd r).active.envelopeRate hlow hhigh (Detector.difference_le _ x)
    exact ⟨hlow', hhigh', hhistory, hrun⟩
  · exact Works.refl r s

theorem suspendedSample_works (r : ReaderId) (l : Lane) (s : State) : Works r s (suspendedSample r l s) := by
  unfold suspendedSample
  split
  · exact Works.refl r s
  · exact quietSample_works r l s
  · exact endSaturation_works r l s
  · exact quietSample_works r l s

theorem detectLane_works (r : ReaderId) (l : Lane) (e : Nat) (x : Sample) (y : Option Sample) (s : State) :
    Works r s (detectLane r l e x y s) := by
  unfold detectLane
  dsimp only
  refine Yields.watches (Yields.detector ?_ l id)
  split
  · refine works_onDetector s r l _ fun hd => ?_
    obtain ⟨hlow, hhigh, hhistory, hrun⟩ := hd
    exact ⟨hlow, hhigh, Nat.min_le_right _ _, hrun⟩
  · split
    · exact suspendedSample_works r l s
    · exact judgeSample_works r l e x y s

theorem detectBoth_works (r : ReaderId) (first : Lane) (e : Nat) (x0 x1 : Sample) (s : State) :
    Works r s (detectBoth r first e x0 x1 s) := by
  cases first with
  | lane0 => exact (detectLane_works r .lane0 e x0 _ s).work (detectLane_works r .lane1 e x1 _ _)
  | lane1 => exact (detectLane_works r .lane1 e x1 _ s).work (detectLane_works r .lane0 e x0 _ _)

/-! ## The table at an entry event, an apply and a splice -/

/-- A chain of the table's acts on the reader. -/
theorem works_of_chain {s : State} {r : ReaderId} {f : Reader → Reader} (h : ReflTransGen TableAct (s.rd r) (f (s.rd r)))
    (hgap : (s.rd r).gap = true → (f (s.rd r)).gap = true) : Works r s (s.onReader r f) := by
  have hstill : ∀ {a b : Reader}, ReflTransGen TableAct a b → b.still = a.still := by
    intro a b hab
    induction hab with
    | refl => rfl
    | tail _ hact ih => exact hact.still.trans ih
  refine ⟨?_, ?_, by rw [State.onReader_queue], fun h => .inl ?_⟩
  · rw [State.rd_onReader_self, hstill h]
  · rw [State.rd_onReader_self]
    exact ReflTransGen.mono (fun _ _ => Or.inl) _ _ h
  · rw [State.rd_onReader_self, hgap h]

theorem chain_idleWhere {rd rd' : Reader} (h : ReflTransGen TableAct rd rd') (b : Bool) (l : Lane) :
    ReflTransGen TableAct rd (if b then rd'.idleLane l else rd') := by
  cases b
  · exact h
  · exact h.tail (act_idle rd' l)

theorem Reader.gap_idleWhere (rd : Reader) (b : Bool) (l : Lane) : (if b then rd.idleLane l else rd).gap = rd.gap := by
  cases b
  · rfl
  · exact Reader.onLane_gap _ _ _

theorem closeAtDeadline_works (s : State) (r : ReaderId) : Works r s (s.onReader r Reader.closeAtDeadline) := by
  refine works_of_chain ?_ ?_
  case refine_2 =>
    unfold Reader.closeAtDeadline
    dsimp only
    rw [Reader.gap_idleWhere, Reader.gap_idleWhere]
    exact id
  unfold Reader.closeAtDeadline
  exact chain_idleWhere (chain_idleWhere (.single (act_mapTable _ _
    (f := fun d => { d with state := .closed, spanEnd := min d.spanEnd ((s.rd r).entered - 2) }) fun _ => rfl)) _ .lane0) _ .lane1

theorem act_closeSplices (rd : Reader) : TableAct rd rd.closeSplices := act_mapTable _ _ fun _ => rfl

theorem tableAtEntry_works (r : ReaderId) (s : State) : Works r s (tableAtEntry r s) := by
  unfold tableAtEntry
  dsimp only
  refine Yields.work ?_ (commitAll_works r _ _)
  have hclosed := (closeAtDeadline_works s r).act (f := Reader.closeSplices) (act_closeSplices _)
  rwa [State.onReader_onReader] at hclosed

theorem commitDue_works (r : ReaderId) (test : Nat → Defect → Bool) (s : State) : Works r s (commitDue r test s) :=
  commitAll_works r _ s

theorem deadlinePasses_works (r : ReaderId) (s : State) : Works r s (deadlinePasses r s) :=
  (closeAtDeadline_works s r).work (commitDue_works r _ _)

theorem runCloses_works (r : ReaderId) (l : Lane) (s : State) : Works r s (runCloses r l s) :=
  (closeRun_works r l _ s).watches

theorem act_filterTable (rd : Reader) (p : Defect → Bool) : TableAct rd { rd with table := rd.table.filter p } :=
  .table _ fun h => h.sublist List.filter_sublist

theorem disableLane_works (s : State) (r : ReaderId) (l : Lane) : Works r s (s.onReader r (disableLane l)) := by
  refine works_of_chain ?_ ?_
  case refine_2 =>
    unfold disableLane
    split
    · exact fun _ => Reader.onLane_gap _ _ _
    · exact fun hgap => (Reader.onLane_gap _ _ _).trans hgap
    · exact fun hgap => (Reader.onLane_gap _ _ _).trans hgap
    · exact id
  unfold disableLane
  split
  · exact ((ReflTransGen.single .count).tail (act_filterTable _ _)).tail (act_idle _ l)
  · exact .single (act_idle _ l)
  · exact .single (act_idle _ l)
  · exact .refl

theorem applyToRun_works (r : ReaderId) (s : State) (l : Lane) : Works r s (applyToRun r s l) := by
  unfold applyToRun
  split
  · rename_i x _ _
    dsimp only
    have hgrown : Works r s (s.onReader r fun y => y.growRun l x.lastHot 0) := works_of_act (f := fun y => y.growRun l _ 0) (act_growRun _ l _ 0)
    split
    · exact hgrown.work (closeOverlong_works r l _)
    · exact hgrown
  all_goals exact Works.refl r s

theorem applyToDetectors_works (r : ReaderId) (old : ParamSet) (s : State) : Works r s (applyToDetectors r old s) := by
  unfold applyToDetectors
  split
  · have hboth := (disableLane_works s r .lane0).work (disableLane_works _ r .lane1)
    rwa [State.onReader_onReader] at hboth
  · exact foldl_works r _ (applyToRun_works r) _ s

theorem closeBefore_works (r : ReaderId) (first : Nat) (s : State) (l : Lane) : Works r s (closeBefore r first s l) := by
  unfold closeBefore
  split
  · split
    · exact closeRun_works r l _ s
    · exact Works.refl r s
  · exact Works.refl r s

/-- The DFCT fields of a MISSED splice (R90). -/
def Reader.missedFields (rd : Reader) (t : Nat) : DfctFields :=
  { lanes := .both, kind := .splice, method := .missed, number := rd.nextNumber, spanStart := index48 t, length := 0, peak := 0
    frameCount := rd.monitor.frameCount, gapBefore := rd.gap, captured := false }

/-- A MISSED splice is recorded where its place is granted, and counted where it is refused (R90). -/
theorem reportMissed_eq (r : ReaderId) (t : Nat) (s : State) :
    reportMissed r t s =
      if s.queue.grants then
        (s.onReader r Reader.recordMissed).onQueue fun q =>
          q.hold.fill { reader := r, lost := false, body := .dfct ((s.rd r).missedFields t) }
      else s.onReader r Reader.countUnrecorded := by
  unfold reportMissed
  split
  · cases r <;> rfl
  · rfl

theorem reportMissed_works (r : ReaderId) (t : Nat) (s : State) : Works r s (reportMissed r t s) := by
  rw [reportMissed_eq]
  split
  · have hmissed : TableAct (s.rd r) (s.rd r).recordMissed := .missed
    have hbodies : (((s.onReader r Reader.recordMissed).onQueue fun q =>
        q.hold.fill { reader := r, lost := false, body := .dfct ((s.rd r).missedFields t) }).queue.bodies) =
          s.queue.bodies ++ [(r, .dfct ((s.rd r).missedFields t))] := by
      rw [State.onQueue_queue, State.onReader_queue, (ReportQueue.bodies_fill _ _).1]
      rfl
    refine ⟨?_, .single (.inl ?_), ?_, fun hgap => .inr ⟨(s.rd r).missedFields t, hgap, ?_⟩⟩
    · rw [State.rd_onQueue, State.rd_onReader_self, hmissed.still]
    · rw [State.rd_onQueue, State.rd_onReader_self]
      exact hmissed
    · rw [hbodies]
      exact List.prefix_append _ _
    · rw [hbodies, List.drop_left]
      exact List.mem_cons_self
  · exact works_of_act .count fun _ => rfl

theorem closeRun_table_length (r : ReaderId) (l : Lane) (finalEnd : Nat) (s : State) :
    ((closeRun r l finalEnd s).rd r).table.length ≤ (s.rd r).table.length := by
  unfold closeRun
  dsimp only
  have htable : ((s.onReader r fun x => x.idleLane l).rd r).table = (s.rd r).table := by
    rw [State.rd_onReader_self]
    exact Reader.table_onLane _ _ _
  split
  · rw [htable]
  · rename_i d hd
    split
    · rw [State.rd_onReader_self]
      obtain ⟨hlt, _⟩ := List.getElem?_eq_some_iff.mp hd
      have hfilter := List.length_filter_le (fun x => !mergesWith l { d with spanEnd := finalEnd, state := .closed } x)
        ((s.rd r).table.eraseIdx ((s.rd r).table.findIdx (isRunOf l)))
      rw [List.length_eraseIdx_of_lt hlt] at hfilter
      change (fileDefect _ _).length ≤ _
      rw [(fileDefect_perm _ _).length_eq, List.length_cons]
      omega
    · have hset : ∀ c : Defect, (((s.onReader r fun x => x.idleLane l).onReader r fun x =>
          x.setEntry ((s.rd r).table.findIdx (isRunOf l)) c).rd r).table.length = (s.rd r).table.length := by
        intro c
        rw [State.rd_onReader_self]
        exact (List.length_set).trans (congrArg List.length htable)
      split
      · refine le_of_eq ((congrArg List.length (table_of_settles (State.evaluateChange_settles _ _) r)).trans ?_)
        rw [commitAt_table_length, hset]
      · rw [hset]

theorem closeBefore_table_length (r : ReaderId) (first : Nat) (s : State) (l : Lane) :
    ((closeBefore r first s l).rd r).table.length ≤ (s.rd r).table.length := by
  unfold closeBefore
  split
  · split
    · exact closeRun_table_length r l _ s
    · exact le_rfl
  · exact le_rfl

theorem foldl_closeBefore_table_length (r : ReaderId) (first : Nat) (ls : List Lane) (s : State) :
    ((ls.foldl (closeBefore r first) s).rd r).table.length ≤ (s.rd r).table.length := by
  induction ls generalizing s with
  | nil => exact le_rfl
  | cons l ls ih => exact (ih _).trans (closeBefore_table_length r first s l)

theorem fileSplice_works (r : ReaderId) (first last : Nat) (s : State) : Works r s (fileSplice r first last s) := by
  unfold fileSplice
  split
  · rename_i hroom
    have hlen := foldl_closeBefore_table_length r first (lanesByTable (s.rd r).table) s
    have hclosed := foldl_works r _ (closeBefore_works r first) (lanesByTable (s.rd r).table) s
    refine (hclosed.work (cutEntries_works r _ _ _)).act (.table _ fun h => h.file ?_ _)
    rw [cutEntries_table_length]
    exact lt_of_le_of_lt hlen hroom
  · exact works_of_act .count fun _ => rfl

theorem Absorption.round_remaining (a : Absorption) : a.round.remaining.Sublist a.remaining := List.filter_sublist

theorem Absorption.rounds_remaining (n : Nat) (a : Absorption) : (a.rounds n).remaining.Sublist a.remaining := by
  induction n generalizing a with
  | zero => exact .refl _
  | succ n ih => exact (ih a.round).trans a.round_remaining

theorem freeAbsorbed_works (s : State) (r : ReaderId) (t : Nat) :
    Works r s (s.onReader r fun x => x.freeAbsorbed ((s.rd r).absorption t)) := by
  refine works_of_chain ?_ ?_
  case refine_2 =>
    unfold Reader.freeAbsorbed
    dsimp only
    rw [Reader.gap_idleWhere, Reader.gap_idleWhere]
    exact id
  unfold Reader.freeAbsorbed
  exact chain_idleWhere (chain_idleWhere (.single (.table _ fun h => h.sublist (Absorption.rounds_remaining _ _))) _ .lane0) _ .lane1

theorem openSplice_works (r : ReaderId) (t : Nat) (s : State) : Works r s (openSplice r t s) := by
  unfold openSplice
  dsimp only
  have hfreed := freeAbsorbed_works s r t
  refine Yields.watches ?_
  split
  · refine Yields.work ?_ (reportMissed_works r t _)
    split
    · exact hfreed
    · exact hfreed.act .count fun _ => rfl
  · refine Yields.work ?_ (fileSplice_works r _ _ _)
    split
    · exact hfreed.act .count fun _ => rfl
    · exact hfreed

end Sys2Proof.Machine
end

section
/-! Frame events and entry events beside the table's work: the reader that each of them brings about. -/

open Relation (ReflTransGen)

namespace Sys2Proof.Machine

/-! ## Functions that leave the table's work alone -/

theorem LaneState.still_still (ln : LaneState) : ln.still.still = ln.still := by
  simp only [LaneState.still, List.map_map]
  rfl

theorem Reader.still_still (rd : Reader) : rd.still.still = rd.still := by
  simp only [Reader.still, LaneState.still_still]

/-- A function that works in the rest of the reader alone. -/
theorem still_of_commutes {f : Reader → Reader} (h : ∀ rd, (f rd).still = f rd.still) : Still f := by
  intro rd
  rw [h rd, h rd.still, rd.still_still]

theorem Still.comp {f g : Reader → Reader} (hf : Still f) (hg : Still g) : Still fun rd => g (f rd) := by
  intro rd
  rw [hg, hf, ← hg]

theorem still_where (c : Reader → Bool) {f g : Reader → Reader} (hc : ∀ rd, c rd = c rd.still) (hf : Still f) (hg : Still g) :
    Still fun rd => if c rd then f rd else g rd := by
  intro rd
  dsimp only
  rw [← hc rd]
  split
  · exact hf rd
  · exact hg rd

theorem still_self : Still fun rd => rd := fun rd => rd.still_still.symm

/-- Two readers alike beside the table's work come to readers alike. -/
theorem Still.congr {f : Reader → Reader} (hf : Still f) {a b : Reader} (h : a.still = b.still) : (f a).still = (f b).still := by
  rw [hf a, hf b, h]

/-- A further function of the reader. -/
theorem Yields.onReader {r : ReaderId} {s t : State} {x : Reader} (h : Yields r s t x) {f : Reader → Reader} (hf : Still f)
    (hmoving : (f (t.rd r)).moving = (t.rd r).moving) (hgap : (f (t.rd r)).gap = (t.rd r).gap := by rfl) :
    Yields r s (t.onReader r f) (f x) :=
  h.trans hf (yields_onReader t r f hmoving hgap)

/-! ## The hum canceller -/

theorem works_offerHums (s : State) (r : ReaderId) (cause : HumsCause) (index : Nat) (old : Reader) :
    Works r s (s.offerHums r cause index old) := by
  unfold State.offerHums
  split
  · exact Works.refl r s
  · exact works_offer s r r _

theorem Yields.offerHums {r : ReaderId} {s t : State} {x : Reader} (h : Yields r s t x) (cause : HumsCause) (index : Nat)
    (old : Reader) : Yields r s (t.offerHums r cause index old) x :=
  h.work (works_offerHums t r cause index old)

theorem still_recomputeHum : Still Reader.recomputeHum := still_of_commutes fun _ => rfl

theorem recomputeIncrements_yields (r : ReaderId) (index : Nat) (s : State) :
    Yields r s (recomputeIncrements r index s) (s.rd r).recomputeHum :=
  ((yields_onReader s r Reader.recomputeHum rfl).offerHums _ _ _).watches

theorem still_settleHum : Still Reader.settleHum := still_of_commutes fun _ => rfl

theorem endPeriod_yields (r : ReaderId) (index : Nat) (s : State) : Yields r s (endPeriod r index s) (s.rd r).settleHum :=
  ((yields_onReader s r Reader.settleHum rfl).offerHums _ _ _).watches

/-- The hum canceller at a frame event (R116 to R118). -/
def Reader.humCounted (rd : Reader) : Reader :=
  if rd.state == .running then
    if rd.humCount.periodDue then rd.humCount.settleHum else rd.humCount
  else rd

theorem still_humCount : Still Reader.humCount := still_of_commutes fun _ => rfl

theorem still_humCounted : Still Reader.humCounted :=
  still_where (·.state == .running) (fun _ => rfl)
    (still_where (·.humCount.periodDue) (fun _ => rfl) (still_humCount.comp still_settleHum) still_humCount) still_self

theorem Yields.congr {r : ReaderId} {s t : State} {x y : Reader} (h : Yields r s t x) (hxy : x.still = y.still) : Yields r s t y :=
  ⟨h.still.trans hxy, h.acts, h.grows, h.tells⟩

theorem humFrameEvent_yields (r : ReaderId) (index : Nat) (s : State) :
    Yields r s (humFrameEvent r index s) (s.rd r).humCounted := by
  have hcount : Yields r s (s.onReader r Reader.humCount) (s.rd r).humCount := yields_onReader s r Reader.humCount rfl
  unfold humFrameEvent Reader.humCounted
  split
  · simp only [State.rd_onReader_self]
    split
    · exact hcount.trans still_settleHum (endPeriod_yields r index _)
    · exact hcount
  · exact Works.refl r s

/-! ## The frame monitor -/

/-- The reader after the monitor's part of a real pulse (R24 to R31, R34, R109). -/
def Reader.pulsed (rd : Reader) : Reader :=
  let out := rd.monitor.pulse rd.active rd.index rd.clockLost
  if out.recompute then ({ rd with monitor := out.monitor }).recomputeHum else { rd with monitor := out.monitor }

theorem monitorPulse_yields (r : ReaderId) (s : State) : Yields r s (monitorPulse r s) (s.rd r).pulsed := by
  unfold monitorPulse Reader.pulsed
  dsimp only
  generalize (s.rd r).monitor.pulse (s.rd r).active (s.rd r).index (s.rd r).clockLost = out
  have hmonitor : Yields r s (s.onReader r fun x => { x with monitor := out.monitor }) { s.rd r with monitor := out.monitor } :=
    yields_onReader s r (fun x => { x with monitor := out.monitor }) rfl
  have hreported : Yields r s (match out.report with
      | some cause => (s.onReader r fun x => { x with monitor := out.monitor }).offerFrms r cause (s.rd r).index
      | none => s.onReader r fun x => { x with monitor := out.monitor }).evaluateWatches { s.rd r with monitor := out.monitor } := by
    refine Yields.watches ?_
    split
    · exact hmonitor.offer _
    · exact hmonitor
  split
  · exact hreported.trans still_recomputeHum (recomputeIncrements_yields r _ _)
  · exact hreported

/-- The reader after the monitor's part of a virtual tick (R33, R35, R109). -/
def Reader.ticked (rd : Reader) : Reader :=
  let rd1 := { rd with monitor := rd.monitor.tick rd.index }
  if rd1.monitor.exhausted rd1.active then ({ rd1 with monitor := rd1.monitor.enterFree rd1.active }).recomputeHum else rd1

theorem still_enterFree : Still fun rd => { rd with monitor := rd.monitor.enterFree rd.active } := still_of_commutes fun _ => rfl

theorem monitorTick_yields (r : ReaderId) (s : State) : Yields r s (monitorTick r s) (s.rd r).ticked := by
  unfold monitorTick Reader.ticked
  dsimp only
  have htick : Yields r s (s.onReader r fun x => { x with monitor := x.monitor.tick (s.rd r).index })
      { s.rd r with monitor := (s.rd r).monitor.tick (s.rd r).index } :=
    yields_onReader s r (fun x => { x with monitor := x.monitor.tick (s.rd r).index }) rfl
  simp only [State.rd_onReader_self]
  split
  · have hfree := htick.onReader (f := fun x => { x with monitor := x.monitor.enterFree x.active }) still_enterFree rfl
    exact (hfree.offer _).watches.trans still_recomputeHum (recomputeIncrements_yields r _ _)
  · exact htick.watches

/-! ## The apply -/

/-- The reader after the apply of a STAGED set (R150, R152, R153), but for the detectors. -/
def Reader.applied (rd : Reader) : Reader :=
  let old := rd.active
  let rd1 := { rd with params := rd.params.rotate }
  let rd2 := ({ rd1 with monitor := rd1.monitor.clampS rd1.active }).applyHum old
  { (rd2.onLanes fun ln => { ln with hiss := ln.hiss.apply old rd2.active }) with appliedSince := true }

theorem still_clamp : Still fun rd => { rd with monitor := rd.monitor.clampS rd.active } := still_of_commutes fun _ => rfl

theorem still_applyHum (old : ParamSet) : Still fun rd => rd.applyHum old := still_of_commutes fun _ => rfl

theorem still_applyHiss (old : ParamSet) : Still fun rd => rd.onLanes fun ln => { ln with hiss := ln.hiss.apply old rd.active } :=
  still_of_commutes fun _ => rfl

theorem still_appliedSince (b : Bool) : Still fun rd => { rd with appliedSince := b } := still_of_commutes fun _ => rfl

theorem applySet_yields (r : ReaderId) (cause : ApldCause) (index : Nat) (s : State) :
    Yields r s (applySet r cause index s) (s.rd r).applied := by
  unfold applySet
  dsimp only
  have hrotate : Yields r s (rotateSlots r cause index s).evaluateWatches { s.rd r with params := (s.rd r).params.rotate } :=
    ((yields_onReader s r (fun x => { x with params := x.params.rotate }) rfl).offer _).watches
  have hclamp := hrotate.onReader (f := fun x => { x with monitor := x.monitor.clampS x.active }) still_clamp rfl
  have hhum := ((hclamp.onReader (f := fun x => x.applyHum (s.rd r).active) (still_applyHum _) rfl).offerHums .apply index
    ((clampSmoothed r (rotateSlots r cause index s).evaluateWatches).rd r)).watches
  have hdetectors := hhum.work (applyToDetectors_works r (s.rd r).active _)
  have hhiss := hdetectors.onReader (f := fun x => x.onLanes fun ln => { ln with hiss := ln.hiss.apply (s.rd r).active x.active })
    (still_applyHiss _) rfl
  exact (hhiss.onReader (f := fun x => { x with appliedSince := true }) (still_appliedSince true) rfl).watches

theorem still_applied : Still Reader.applied := still_of_commutes fun _ => rfl

/-- The reader after the parameter sets' part of a frame event (R147, R150). -/
def Reader.appliedAtFrame (rd : Reader) : Reader := if rd.started && rd.params.releases then rd.applied else rd

theorem still_appliedAtFrame : Still Reader.appliedAtFrame :=
  still_where (fun rd => rd.started && rd.params.releases) (fun _ => rfl) still_applied still_self

theorem applyAtFrame_yields (r : ReaderId) (cause : ApldCause) (index : Nat) (s : State) :
    Yields r s (applyAtFrame r cause index s) (s.rd r).appliedAtFrame := by
  unfold applyAtFrame Reader.appliedAtFrame
  split
  · exact applySet_yields r cause index s
  · exact Works.refl r s

/-! ## The splice schedule and the exclusion list -/

/-- The schedule behind a real pulse that finds the frame count at c: the entries due before c have left, and the head that is
due at c leaves unless the clock is lost (R96). -/
def scheduleAfter (c : Nat) (lost : Bool) (schedule : List SpliceEntry) : List SpliceEntry :=
  match schedule.dropWhile fun x => x.due < c with
  | [] => []
  | x :: rest => if x.due = c ∧ lost = false then rest else x :: rest

/-- The reader after the schedule's work at a real pulse (R96). -/
def Reader.scheduled (rd : Reader) : Reader :=
  { rd with schedule := scheduleAfter rd.monitor.frameCount rd.clockLost rd.schedule }

theorem still_scheduled : Still Reader.scheduled := still_of_commutes fun _ => rfl

theorem missFirst_yields (r : ReaderId) (t : Nat) (s : State) :
    Yields r s (missFirst r t s) { s.rd r with schedule := (s.rd r).schedule.tail } :=
  ((yields_onReader s r (fun x => { x with schedule := x.schedule.tail }) rfl).work (reportMissed_works r t _)).watches

/-- The reader with the entries whose due frame has passed gone from the schedule (R96 step 1). -/
def Reader.passed (rd : Reader) : Reader :=
  { rd with schedule := rd.schedule.dropWhile fun x => x.due < rd.monitor.frameCount }

theorem still_passed : Still Reader.passed := still_of_commutes fun _ => rfl

theorem Reader.passed_self {rd : Reader} (h : (rd.schedule.dropWhile fun x => decide (x.due < rd.monitor.frameCount)) = rd.schedule) :
    rd.passed = rd := by
  unfold Reader.passed
  rw [h]

theorem missPassed_yields (r : ReaderId) (t n : Nat) (s : State) (hn : (s.rd r).schedule.length ≤ n) :
    Yields r s (missPassed r t n s) (s.rd r).passed := by
  induction n generalizing s with
  | zero =>
    have hnil : (s.rd r).schedule = [] := List.length_eq_zero_iff.mp (Nat.le_zero.mp hn)
    rw [Reader.passed_self (by rw [hnil]; rfl)]
    exact Works.refl r s
  | succ n ih =>
    unfold missPassed
    split
    · rename_i hnil
      rw [Reader.passed_self (by rw [hnil]; rfl)]
      exact Works.refl r s
    · rename_i x rest hschedule
      split
      · rename_i hdue
        have hmissed := missFirst_yields r t s
        have hrest : ((missFirst r t s).rd r).schedule = (s.rd r).schedule.tail := congrArg Reader.schedule hmissed.still
        have hlen : ((missFirst r t s).rd r).schedule.length ≤ n := by
          rw [hschedule] at hrest hn
          rw [hrest]
          exact Nat.le_of_succ_le_succ hn
        refine (hmissed.trans still_passed (ih _ hlen)).congr ?_
        have hpassed : ({ s.rd r with schedule := (s.rd r).schedule.tail } : Reader).passed = (s.rd r).passed := by
          unfold Reader.passed
          dsimp only
          rw [hschedule, List.dropWhile_cons_of_pos (by simpa using hdue)]
          rfl
        rw [hpassed]
      · rename_i hdue
        rw [Reader.passed_self]
        · exact Works.refl r s
        · rw [hschedule, List.dropWhile_cons_of_neg (by simpa using hdue)]

/-- The schedule once its front splice has been opened, where it is due at a frame count (R97, R98). -/
def leftByDue (count : Nat) (lost : Bool) : List SpliceEntry → List SpliceEntry
  | [] => []
  | x :: rest => if x.due = count ∧ lost = false then rest else x :: rest

/-- The reader with a due head gone from the schedule, unless the clock is lost (R96 step 2). -/
def Reader.opened (rd : Reader) : Reader :=
  { rd with schedule := leftByDue rd.monitor.frameCount rd.clockLost rd.schedule }

theorem still_opened : Still Reader.opened := still_of_commutes fun _ => rfl

theorem openDue_yields (r : ReaderId) (t : Nat) (s : State) : Yields r s (openDue r t s) (s.rd r).opened := by
  unfold openDue
  split
  · rename_i hnil
    refine (Works.refl r s).congr ?_
    have hleft : leftByDue (s.rd r).monitor.frameCount (s.rd r).clockLost (s.rd r).schedule = (s.rd r).schedule := by
      rw [hnil, leftByDue]
    exact congrArg (fun x => ({ s.rd r with schedule := x } : Reader).still) hleft.symm
  · rename_i x rest hschedule
    split
    · rename_i hdue
      have hleft : leftByDue (s.rd r).monitor.frameCount (s.rd r).clockLost (s.rd r).schedule = rest := by
        rw [hschedule, leftByDue, if_pos hdue]
      refine ((yields_onReader s r (fun y => { y with schedule := rest }) rfl).work (openSplice_works r t _)).congr ?_
      exact congrArg (fun x => ({ s.rd r with schedule := x } : Reader).still) hleft.symm
    · rename_i hdue
      have hleft : leftByDue (s.rd r).monitor.frameCount (s.rd r).clockLost (s.rd r).schedule = (s.rd r).schedule := by
        rw [hschedule, leftByDue, if_neg hdue]
      refine (Works.refl r s).congr ?_
      exact congrArg (fun x => ({ s.rd r with schedule := x } : Reader).still) hleft.symm

theorem scheduleAtPulse_yields (r : ReaderId) (s : State) : Yields r s (scheduleAtPulse r s) (s.rd r).scheduled :=
  show Yields r s _ (s.rd r).passed.opened from (missPassed_yields r _ _ s le_rfl).trans still_opened (openDue_yields r _ _)

/-- The reader after the exclusion list's work at a real pulse (R104). -/
def Reader.expired (rd : Reader) : Reader :=
  { rd with exclusions := rd.exclusions.filter fun y => rd.monitor.frameCount ≤ y.last }

theorem still_expired : Still Reader.expired := still_of_commutes fun _ => rfl

theorem expireExclusions_yields (r : ReaderId) (s : State) : Yields r s (expireExclusions r s) (s.rd r).expired :=
  yields_onReader s r (fun x => { x with exclusions := x.exclusions.filter fun y => x.monitor.frameCount ≤ y.last }) rfl

/-! ## Frame events -/

/-- The reader after a frame event, the monitor's own work being done (R36). -/
def Reader.atFrame (rd : Reader) (ev : FrameEvent) : Reader :=
  match ev with
  | .tick => rd.appliedAtFrame.humCounted
  | .arming => rd.appliedAtFrame.humCounted.scheduled
  | .pulse => rd.appliedAtFrame.humCounted.scheduled.expired

theorem still_atFrame (ev : FrameEvent) : Still fun rd => rd.atFrame ev := by
  have htick := still_appliedAtFrame.comp still_humCounted
  cases ev with
  | tick => exact htick
  | arming => exact htick.comp still_scheduled
  | pulse => exact (htick.comp still_scheduled).comp still_expired

theorem frameEvent_yields (r : ReaderId) (ev : FrameEvent) (index : Nat) (s : State) :
    Yields r s (frameEvent r ev index s) ((s.rd r).atFrame ev) := by
  have hticked := (applyAtFrame_yields r ev.cause index s).trans still_humCounted (humFrameEvent_yields r index _)
  cases ev with
  | tick => exact hticked
  | arming => exact hticked.trans still_scheduled (scheduleAtPulse_yields r _)
  | pulse => exact (hticked.trans still_scheduled (scheduleAtPulse_yields r _)).trans still_expired (expireExclusions_yields r _)

/-- A real pulse in RUNNING or BYPASSED (R23). -/
theorem countedPulse_yields (r : ReaderId) (s : State) : Yields r s (countedPulse r s) ((s.rd r).pulsed.atFrame .pulse) :=
  (monitorPulse_yields r s).trans (still_atFrame .pulse) (frameEvent_yields r .pulse _ _)

/-- A virtual tick (R33). -/
theorem virtualTick_yields (r : ReaderId) (s : State) : Yields r s (virtualTick r s) ((s.rd r).ticked.atFrame .tick) :=
  (monitorTick_yields r s).trans (still_atFrame .tick) (frameEvent_yields r .tick _ _)

theorem still_ticked : Still Reader.ticked :=
  still_where (fun rd => ({ rd with monitor := rd.monitor.tick rd.index } : Reader).monitor.exhausted rd.active) (fun _ => rfl)
    (still_of_commutes fun _ => rfl) (still_of_commutes fun _ => rfl)

/-- The reader after the entry into HOLDOVER with its first virtual tick (R32). -/
def Reader.heldOver (rd : Reader) : Reader := (({ rd with monitor := rd.monitor.enterHoldover } : Reader).ticked).atFrame .tick

theorem holdoverEntry_yields (r : ReaderId) (s : State) : Yields r s (holdoverEntry r s) (s.rd r).heldOver := by
  have henter : Yields r s (enterHoldover r s) { s.rd r with monitor := (s.rd r).monitor.enterHoldover } :=
    (yields_onReader s r (fun x => { x with monitor := x.monitor.enterHoldover }) rfl).offer _
  exact henter.trans (g := fun rd => rd.ticked.atFrame .tick) (still_ticked.comp (still_atFrame .tick)) (virtualTick_yields r _)

/-- The reader after the frame monitor's part of an entry event (R32, R33, R35). -/
def Reader.monitored (rd : Reader) : Reader :=
  if rd.holdoverDue then rd.heldOver
  else if rd.tickDue then rd.ticked.atFrame .tick
  else rd

theorem still_heldOver : Still Reader.heldOver :=
  Still.comp (f := fun rd => { rd with monitor := rd.monitor.enterHoldover }) (still_of_commutes fun _ => rfl)
    (still_ticked.comp (still_atFrame .tick))

theorem still_monitored : Still Reader.monitored :=
  still_where Reader.holdoverDue (fun _ => rfl) still_heldOver
    (still_where Reader.tickDue (fun _ => rfl) (still_ticked.comp (still_atFrame .tick)) still_self)

theorem monitorAtEntry_yields (r : ReaderId) (s : State) : Yields r s (monitorAtEntry r s) (s.rd r).monitored := by
  unfold monitorAtEntry Reader.monitored
  split
  · exact holdoverEntry_yields r s
  · split
    · exact virtualTick_yields r s
    · exact Works.refl r s

/-! ## Entry events -/

/-- The reader core at an entry event in RUNNING or BYPASSED, but for the table (R3, R5, R15). -/
def Reader.sampled (x0 x1 : Sample) (rd : Reader) : Reader :=
  { rd with
    lane0 := rd.lane0.enter rd.active true x0
    lane1 := rd.lane1.enter rd.active true x1
    entered := rd.entered + 1
    appliedSince := false }

theorem LaneState.still_enter (ln : LaneState) (p : ParamSet) (judged : Bool) (x : Sample) :
    (ln.enter p judged x).still = (ln.still.enter p judged x).still := by
  simp only [LaneState.enter, LaneState.still, pushCell, List.map_cons, ← List.map_dropLast, List.map_map]
  rfl

theorem works_offerLane (s : State) (r : ReaderId) (cause : LaneCause) (l0 l1 : Bool) (index : Nat) :
    Works r s (s.offerLane r cause l0 l1 index) := by
  unfold State.offerLane
  dsimp only
  split
  · exact works_offer s r r _
  · exact Works.refl r s

theorem works_offerStuckChanges (s : State) (r : ReaderId) (old : Reader) (index : Nat) :
    Works r s (s.offerStuckChanges r old index) :=
  (works_offerLane s r _ _ _ _).work (works_offerLane _ r _ _ _ _)

theorem act_removeLeft (rd : Reader) : TableAct rd rd.removeLeft := act_filterTable rd _

theorem enterStarted_yields (r : ReaderId) (x0 x1 : Sample) (s : State) :
    Yields r s (enterStarted r x0 x1 s) ((s.rd r).sampled x0 x1) := by
  unfold enterStarted
  dsimp only
  have hentered := (yields_onReader s r (Reader.sampled x0 x1) rfl).act (f := Reader.removeLeft) (act_removeLeft _)
  rw [State.onReader_onReader] at hentered
  exact (hentered.work (works_offerStuckChanges _ r _ _)).watches

theorem LaneState.still_processExit (ln : LaneState) (h : Hum) (p : ParamSet) (fallback : Bool) (x : Sample) :
    (ln.processExit h p fallback x).still = ln.still.processExit h p fallback x := by
  cases fallback <;> rfl

theorem LaneState.detector_processExit (ln : LaneState) (h : Hum) (p : ParamSet) (fallback : Bool) (x : Sample) :
    (ln.processExit h p fallback x).detector = ln.detector := by
  cases fallback <;> rfl

theorem still_processRunning (c0 c1 : Cell) : Still (processRunning c0 c1) := by
  refine still_of_commutes fun rd => ?_
  simp only [Reader.still, processRunning, LaneState.still_processExit]
  rfl

theorem moving_processRunning (c0 c1 : Cell) (rd : Reader) : (processRunning c0 c1 rd).moving = rd.moving := by
  simp only [Reader.moving, processRunning, LaneState.detector_processExit]

theorem still_processBypassed (c0 c1 : Cell) : Still (processBypassed c0 c1) := still_of_commutes fun _ => rfl

/-- The exiting cells of a reader (R3). -/
def Reader.exiting (rd : Reader) (l : Lane) : Cell := exitingCell (rd.lane l).window

/-- The reader after an entry event in RUNNING, beside the table's work (R2, R3). -/
def Reader.ranOn (rd : Reader) (x0 x1 : Sample) : Reader :=
  (processRunning (rd.exiting .lane0) (rd.exiting .lane1) (rd.sampled x0 x1)).monitored

theorem entryRunning_yields (r : ReaderId) (x0 x1 : Sample) (first : Lane) (s : State) :
    Yields r s (entryRunning r x0 x1 first s) ((s.rd r).ranOn x0 x1) := by
  have hdetected := (enterStarted_yields r x0 x1 s).work
    (detectBoth_works r first (((enterStarted r x0 x1 s).rd r).entered - 1) x0 x1 _)
  have hprocessed := (hdetected.work (tableAtEntry_works r _)).onReader
    (f := processRunning ((s.rd r).exiting .lane0) ((s.rd r).exiting .lane1)) (still_processRunning _ _) (moving_processRunning _ _ _)
  exact hprocessed.trans still_monitored (monitorAtEntry_yields r _)

/-- The reader after an entry event in BYPASSED, beside the table's work (R12). -/
def Reader.passedOn (rd : Reader) (x0 x1 : Sample) : Reader :=
  (processBypassed (rd.exiting .lane0) (rd.exiting .lane1) (rd.sampled x0 x1)).monitored

theorem entryBypassed_yields (r : ReaderId) (x0 x1 : Sample) (s : State) :
    Yields r s (entryBypassed r x0 x1 s) ((s.rd r).passedOn x0 x1) := by
  have htable := (enterStarted_yields r x0 x1 s).work (tableAtEntry_works r _)
  exact (htable.onReader (f := processBypassed ((s.rd r).exiting .lane0) ((s.rd r).exiting .lane1)) (still_processBypassed _ _) rfl).trans
    still_monitored (monitorAtEntry_yields r _)

end Sys2Proof.Machine
end

section
/-! What frame events leave of a reader, and the entry event (R4, R12, R15 to R17, R111, R113 to R115, R128). -/

namespace Sys2Proof.Machine

/-! ## What frame events leave -/

/-- A lane without its hum state. -/
def LaneState.besideHum (ln : LaneState) : LaneState :=
  { ln with hum := Vector.replicate 12 HumLaneSlot.reset, adapted := false }

/-- A reader without its monitor and its hum canceller: what a frame event that applies no set may change. -/
def Reader.besideHum (rd : Reader) : Reader :=
  { rd with monitor := Monitor.reset, hum := Hum.reset, lane0 := rd.lane0.besideHum, lane1 := rd.lane1.besideHum }

/-- A reader without what a virtual tick may change: also its parameter sets and the hiss filters. -/
def Reader.besideFrame (rd : Reader) : Reader :=
  { rd.besideHum with
    params := Params.reset, appliedSince := false
    lane0 := { rd.lane0.besideHum with hiss := Hiss.reset }, lane1 := { rd.lane1.besideHum with hiss := Hiss.reset } }

theorem Reader.besideFrame_of_besideHum {a b : Reader} (h : a.besideHum = b.besideHum) : a.besideFrame = b.besideFrame := by
  have hframe : ∀ rd : Reader, rd.besideFrame = rd.besideHum.besideFrame := fun _ => rfl
  rw [hframe a, h, ← hframe]

theorem Reader.besideHum_humCounted (rd : Reader) : rd.humCounted.besideHum = rd.besideHum := by
  unfold Reader.humCounted
  split
  · split <;> rfl
  · rfl

theorem Reader.besideHum_pulsed (rd : Reader) : rd.pulsed.besideHum = rd.besideHum := by
  unfold Reader.pulsed
  dsimp only
  split <;> rfl

theorem Reader.besideHum_ticked (rd : Reader) : rd.ticked.besideHum = rd.besideHum := by
  unfold Reader.ticked
  dsimp only
  split <;> rfl

theorem Reader.besideFrame_applied (rd : Reader) : rd.applied.besideFrame = rd.besideFrame := by
  simp only [Reader.besideFrame, Reader.besideHum, LaneState.besideHum, Reader.applied, Reader.applyHum, Reader.onLanes]

theorem Reader.besideFrame_appliedAtFrame (rd : Reader) : rd.appliedAtFrame.besideFrame = rd.besideFrame := by
  unfold Reader.appliedAtFrame
  split
  · exact rd.besideFrame_applied
  · rfl

theorem Reader.besideFrame_tick (rd : Reader) : (rd.atFrame .tick).besideFrame = rd.besideFrame :=
  (Reader.besideFrame_of_besideHum rd.appliedAtFrame.besideHum_humCounted).trans rd.besideFrame_appliedAtFrame

theorem Reader.besideFrame_heldOver (rd : Reader) : rd.heldOver.besideFrame = rd.besideFrame := by
  unfold Reader.heldOver
  rw [Reader.besideFrame_tick, Reader.besideFrame_of_besideHum (Reader.besideHum_ticked _)]
  rfl

theorem Reader.besideFrame_monitored (rd : Reader) : rd.monitored.besideFrame = rd.besideFrame := by
  unfold Reader.monitored
  split
  · exact rd.besideFrame_heldOver
  · split
    · rw [Reader.besideFrame_tick, Reader.besideFrame_of_besideHum rd.besideHum_ticked]
    · rfl

theorem Reader.appliedAtFrame_of_withheld {rd : Reader} (h : rd.params.releases = false) : rd.appliedAtFrame = rd := by
  simp [Reader.appliedAtFrame, h]

theorem Reader.besideHum_tick {rd : Reader} (h : rd.params.releases = false) : (rd.atFrame .tick).besideHum = rd.besideHum := by
  change rd.appliedAtFrame.humCounted.besideHum = _
  rw [Reader.appliedAtFrame_of_withheld h, Reader.besideHum_humCounted]

theorem Reader.params_of_besideHum {a b : Reader} (h : a.besideHum = b.besideHum) : a.params = b.params :=
  show a.besideHum.params = b.besideHum.params from congrArg Reader.params h

theorem Reader.besideHum_heldOver {rd : Reader} (h : rd.params.releases = false) : rd.heldOver.besideHum = rd.besideHum := by
  have hticked := Reader.besideHum_ticked { rd with monitor := rd.monitor.enterHoldover }
  unfold Reader.heldOver
  rw [Reader.besideHum_tick, hticked]
  · rfl
  · rw [Reader.params_of_besideHum hticked]
    exact h

theorem Reader.besideHum_monitored {rd : Reader} (h : rd.params.releases = false) : rd.monitored.besideHum = rd.besideHum := by
  unfold Reader.monitored
  split
  · exact Reader.besideHum_heldOver h
  · split
    · have hticked := rd.besideHum_ticked
      rw [Reader.besideHum_tick, hticked]
      rw [Reader.params_of_besideHum hticked]
      exact h
    · rfl

/-! ## Entry events as commands -/

/-- An entry event in RUNNING: the state behind it. -/
theorem exec_entry_running {r : ReaderId} {s : State} (x0 x1 : Sample) (first : Lane) (hclock : (s.rd r).clockLost = false)
    (hstate : (s.rd r).state = .running) :
    ∃ t, exec (.entryEvent r x0 x1 first) s = .next t ∧ Yields r s t ((s.rd r).ranOn x0 x1) ∧
      (t.rd (otherReader r)).calm = (s.rd (otherReader r)).calm ∧ t.link.reply = s.link.reply := by
  have hwithin := entryEvent_within r x0 x1 first s
  have hends := (State.arbitrate_settles (entryEvent r x0 x1 first s)).1
  refine ⟨_, rfl, ?_, ?_, ?_⟩
  · refine Yields.arbitrate ?_
    unfold entryEvent
    rw [if_neg (by simp [hclock]), hstate]
    exact entryRunning_yields r x0 x1 first s
  · rw [hends.calm, hwithin.other]
  · rw [hends.reply, hwithin.link]

/-- An entry event in BYPASSED: the state behind it. -/
theorem exec_entry_bypassed {r : ReaderId} {s : State} (x0 x1 : Sample) (first : Lane) (hclock : (s.rd r).clockLost = false)
    (hstate : (s.rd r).state = .bypassed) :
    ∃ t, exec (.entryEvent r x0 x1 first) s = .next t ∧ Yields r s t ((s.rd r).passedOn x0 x1) ∧
      (t.rd (otherReader r)).calm = (s.rd (otherReader r)).calm := by
  have hwithin := entryEvent_within r x0 x1 first s
  have hends := (State.arbitrate_settles (entryEvent r x0 x1 first s)).1
  refine ⟨_, rfl, ?_, ?_⟩
  · refine Yields.arbitrate ?_
    unfold entryEvent
    rw [if_neg (by simp [hclock]), hstate]
    exact entryBypassed_yields r x0 x1 s
  · rw [hends.calm, hwithin.other]

/-! ## What an entry event sends -/

theorem fallsBack_iff {mode : LaneMode} {own twin : Bool} :
    fallsBack mode own twin = true ↔ mode = .twin ∧ own = true ∧ twin = false := by
  simp [fallsBack, and_assoc]

/-- Settles O31: frame events leave what the entry event has sent. -/
theorem outputFollowsTheReaderState : Obligations.OutputFollowsTheReaderState := by
  unfold Obligations.OutputFollowsTheReaderState
  refine ⟨fun r x0 x1 first s hclock hstate => ?running, fun r x0 x1 first s hclock hstate => ?bypassed⟩
  case running =>
    obtain ⟨t, ht, hyields, hother, hreply⟩ := exec_entry_running x0 x1 first hclock hstate
    refine ⟨t, ht, ?_⟩
    dsimp only
    have hframe := (processRunning ((s.rd r).exiting .lane0) ((s.rd r).exiting .lane1) ((s.rd r).sampled x0 x1)).besideFrame_monitored
    refine ⟨?output, ?entered, ?state, ?mode, ?schedule, ?exclusions, hother, hreply⟩
    case output =>
      refine (congrArg Reader.output hyields.still).trans ((congrArg Reader.output hframe :).trans ?_)
      refine congrArg some (congrArg₂ Prod.mk ?_ ?_)
      · exact if_congr fallsBack_iff rfl rfl
      · exact if_congr fallsBack_iff rfl rfl
    case entered => exact (congrArg Reader.entered hyields.still).trans (congrArg Reader.entered hframe :)
    case state => exact ((congrArg Reader.state hyields.still).trans (congrArg Reader.state hframe :)).trans hstate
    case mode => exact (congrArg Reader.laneMode hyields.still).trans (congrArg Reader.laneMode hframe :)
    case schedule => exact (congrArg Reader.schedule hyields.still).trans (congrArg Reader.schedule hframe :)
    case exclusions => exact (congrArg Reader.exclusions hyields.still).trans (congrArg Reader.exclusions hframe :)
  case bypassed =>
    obtain ⟨t, ht, hyields, hother⟩ := exec_entry_bypassed x0 x1 first hclock hstate
    refine ⟨t, ht, ?_⟩
    dsimp only
    have hframe := (processBypassed ((s.rd r).exiting .lane0) ((s.rd r).exiting .lane1) ((s.rd r).sampled x0 x1)).besideFrame_monitored
    refine ⟨?output, ?entered, ?state, fun hwithheld l => ?hiss, hother⟩
    case output => exact (congrArg Reader.output hyields.still).trans (congrArg Reader.output hframe :)
    case entered => exact (congrArg Reader.entered hyields.still).trans (congrArg Reader.entered hframe :)
    case state => exact ((congrArg Reader.state hyields.still).trans (congrArg Reader.state hframe :)).trans hstate
    case hiss =>
      have hhum := Reader.besideHum_monitored
        (rd := processBypassed ((s.rd r).exiting .lane0) ((s.rd r).exiting .lane1) ((s.rd r).sampled x0 x1)) hwithheld
      cases l
      · exact (congrArg (fun rd => rd.lane0.hiss) hyields.still).trans (congrArg (fun rd => rd.lane0.hiss) hhum :)
      · exact (congrArg (fun rd => rd.lane1.hiss) hyields.still).trans (congrArg (fun rd => rd.lane1.hiss) hhum :)

/-- Settles O54: the filter by its equations, and the entry event as one step of it. -/
theorem hissFilterStaysBetweenStateAndResidual : Obligations.HissFilterStaysBetweenStateAndResidual := by
  unfold Obligations.HissFilterStaysBetweenStateAndResidual
  refine ⟨fun h p e hp hstep => ?enabled, fun h p e hp => ?block, fun h p e hp => h.process_of_disabled p e hp,
    fun r x0 x1 first s hclock hstate hwithheld => ?entry⟩
  case enabled =>
    dsimp only
    rw [(h.process_of_enabled p e hp).1]
    exact hissFilter_spec h.y e hstep
  case block =>
    obtain ⟨_, hprev, hbefore, hlast⟩ := h.process_of_enabled p e hp
    refine ⟨hprev, hbefore, fun hcount => ?_⟩
    obtain ⟨hsum, hzero, hstep⟩ := hlast hcount
    exact ⟨hsum, hzero, hstep⟩
  case entry =>
    obtain ⟨t, ht, hyields, _⟩ := exec_entry_running x0 x1 first hclock hstate
    have hhum := Reader.besideHum_monitored
      (rd := processRunning ((s.rd r).exiting .lane0) ((s.rd r).exiting .lane1) ((s.rd r).sampled x0 x1)) hwithheld
    refine ⟨t, ht, fun l => ?_⟩
    cases l
    · exact (congrArg (fun rd => rd.lane0.hiss) hyields.still).trans (congrArg (fun rd => rd.lane0.hiss) hhum :)
    · exact (congrArg (fun rd => rd.lane1.hiss) hyields.still).trans (congrArg (fun rd => rd.lane1.hiss) hhum :)

/-- A lane without its hum state and its hiss filter. -/
def LaneState.bare (ln : LaneState) : LaneState := { ln.besideHum with hiss := Hiss.reset }

theorem LaneState.bare_processExit (ln : LaneState) (h : Hum) (p : ParamSet) (fallback : Bool) (x : Sample) :
    (ln.processExit h p fallback x).bare = ln.bare := by
  cases fallback <;> rfl

/-- A lane behind an entry event in RUNNING or BYPASSED, but for the table's work, the hum canceller and the hiss filter. -/
theorem exec_entry_lane {r : ReaderId} {s : State} (x0 x1 : Sample) (first : Lane) (hclock : (s.rd r).clockLost = false)
    (hstate : (s.rd r).state = .running ∨ (s.rd r).state = .bypassed) :
    ∃ t, exec (.entryEvent r x0 x1 first) s = .next t ∧
      ∀ l : Lane, ((t.rd r).lane l).still.bare = (((s.rd r).sampled x0 x1).lane l).still.bare := by
  have hlane : ∀ (l : Lane) (x y : Reader), x.besideFrame = y.besideFrame → (x.lane l).still.bare = (y.lane l).still.bare := by
    intro l x y h
    cases l
    · exact congrArg (fun rd => rd.lane0.still.bare) h
    · exact congrArg (fun rd => rd.lane1.still.bare) h
  have hstill : ∀ (l : Lane) (x y : Reader), x.still = y.still → (x.lane l).still.bare = (y.lane l).still.bare := by
    intro l x y h
    cases l
    · exact congrArg (fun rd => rd.lane0.bare) h
    · exact congrArg (fun rd => rd.lane1.bare) h
  rcases hstate with hstate | hstate
  · obtain ⟨t, ht, hyields, _⟩ := exec_entry_running x0 x1 first hclock hstate
    refine ⟨t, ht, fun l => ((hstill l _ _ hyields.still).trans (hlane l _ _ (Reader.besideFrame_monitored _))).trans ?_⟩
    cases l
    · exact congrArg LaneState.still (LaneState.bare_processExit _ _ _ _ _)
    · exact congrArg LaneState.still (LaneState.bare_processExit _ _ _ _ _)
  · obtain ⟨t, ht, hyields, _⟩ := exec_entry_bypassed x0 x1 first hclock hstate
    refine ⟨t, ht, fun l => ((hstill l _ _ hyields.still).trans (hlane l _ _ (Reader.besideFrame_monitored _))).trans ?_⟩
    cases l <;> rfl

/-- Settles O34: the judgement of both samples stands through the event. -/
theorem entryJudgesStuckLanes : Obligations.EntryJudgesStuckLanes := by
  unfold Obligations.EntryJudgesStuckLanes
  intro r x0 x1 first s hclock hstate
  obtain ⟨t, ht, hlanes⟩ := exec_entry_lane x0 x1 first hclock hstate
  refine ⟨t, ht, fun l => ?_⟩
  have hmarks : ∀ w : List Cell, (w.map fun c => { c with sample := (0 : Sample) }).map (·.mark) = w.map (·.mark) := by
    intro w
    rw [List.map_map]
    rfl
  have hlane := hlanes l
  have hwindow := (hmarks _).symm.trans ((congrArg (fun ln => ln.window.map (·.mark)) hlane).trans (hmarks _))
  refine ⟨?last, ?count, ?stuck, hwindow.trans ?marks⟩
  case last => exact (congrArg LaneState.lastEntered hlane).trans (by cases l <;> rfl)
  case count => exact (congrArg LaneState.equalRun hlane).trans (by cases l <;> rfl)
  case stuck => exact (congrArg LaneState.stuck hlane).trans (by cases l <;> rfl)
  case marks =>
    cases l
    · exact congrArg (List.cons _) List.map_dropLast
    · exact congrArg (List.cons _) List.map_dropLast

/-! ## The sine table and the weights -/

theorem sineAt_le (j : Nat) : sineAt j ≤ 32767 := by
  have hrows : ∀ row ∈ sineQuarter, ∀ x ∈ row, x ≤ 32767 := by decide +kernel
  have hget : ∀ row : List Nat, (∀ x ∈ row, x ≤ 32767) → ∀ k, row.getD k 0 ≤ 32767 := by
    intro row hrow k
    rw [List.getD_eq_getElem?_getD]
    cases hk : row[k]? with
    | none => exact Nat.zero_le _
    | some x => exact hrow x (List.mem_of_getElem? hk)
  unfold sineAt
  refine hget _ ?_ _
  rw [List.getD_eq_getElem?_getD]
  cases hk : sineQuarter[j / 64]? with
  | none => nofun
  | some row => exact hrows row (List.mem_of_getElem? hk)

theorem sineEntry_odd_low {j : Nat} (h0 : 0 < j) (h : j < 2048) : sineEntry (4096 - j) = -sineEntry j := by
  unfold sineEntry
  rcases Nat.lt_trichotomy j 1024 with h1 | rfl | h1
  · rw [if_neg (by omega), if_neg (by omega), if_neg (by omega), if_pos (by omega), Nat.sub_sub_self (by omega)]
  · rfl
  · rw [if_neg (by omega), if_neg (by omega), if_pos (by omega), if_neg (by omega), if_pos (by omega),
      show 4096 - j - 2048 = 2048 - j by omega]

theorem sineEntry_odd {j : Nat} (h0 : 0 < j) (h : j < 4096) : sineEntry (4096 - j) = -sineEntry j := by
  rcases Nat.lt_trichotomy j 2048 with h1 | rfl | h1
  · exact sineEntry_odd_low h0 h1
  · rfl
  · have hlow := sineEntry_odd_low (j := 4096 - j) (by omega) (by omega)
    rw [Nat.sub_sub_self (by omega)] at hlow
    rw [hlow, neg_neg]

theorem sineEntry_even {j : Nat} (h : j ≤ 2048) : sineEntry (2048 - j) = sineEntry j := by
  unfold sineEntry
  rcases Nat.lt_trichotomy j 1024 with h1 | rfl | h1
  · rw [if_neg (by omega), if_pos (by omega), if_pos (by omega)]
    congr 2
    omega
  · rfl
  · rw [if_pos (by omega), if_neg (by omega), if_pos h]

theorem sineEntry_bounds (j : Nat) : -32767 ≤ sineEntry j ∧ sineEntry j ≤ 32767 := by
  unfold sineEntry
  have h1 := sineAt_le j
  have h2 := sineAt_le (2048 - j)
  have h3 := sineAt_le (j - 2048)
  have h4 := sineAt_le (4096 - j)
  split
  · omega
  · split
    · omega
    · split <;> omega

theorem HumStatus.active_iff {x : HumStatus} : x.active = true ↔ x = .seeking ∨ x = .locked := by
  cases x <;> simp [HumStatus.active]

theorem clampSample_toInt (x : Int) : (clampSample x).toInt = max (-8388608) (min 8388607 x) :=
  sampleOf_toInt (le_max_left _ _) (by simp [clampInt])

theorem LaneState.hum_processExit (ln : LaneState) (h : Hum) (p : ParamSet) (fallback : Bool) (x : Sample) :
    (ln.processExit h p fallback x).hum = if fallback then ln.hum else (ln.adapt h p (ln.residual h x)).hum := by
  cases fallback <;> rfl

theorem LaneState.adapted_processExit (ln : LaneState) (h : Hum) (p : ParamSet) (fallback : Bool) (x : Sample) :
    (ln.processExit h p fallback x).adapted = if fallback then ln.adapted else true := by
  cases fallback <;> rfl

theorem LaneState.hum_adapt (ln : LaneState) (h : Hum) (p : ParamSet) (e : Sample) (i : Fin 12) :
    (ln.adapt h p e).hum[i] =
      if ln.hum[i].status.active then ln.hum[i].update h.slots[i].theta p.hum[i].shift e.toInt else ln.hum[i] := by
  simp only [LaneState.adapt, Fin.getElem_fin, Vector.getElem_ofFn]

theorem bne_or_bne (a b c d : Int) : (a != b || c != d) = decide (a ≠ b ∨ c ≠ d) := by
  rw [Bool.eq_iff_iff]
  simp

/-- Settles O33: the table by its symmetries, the residual by its sum, and the weights slot by slot. -/
theorem residualMovesTheWeights : Obligations.ResidualMovesTheWeights := by
  unfold Obligations.ResidualMovesTheWeights
  refine ⟨⟨fun j => sineEntry_odd, fun j => sineEntry_even, fun j _ => sineEntry_bounds j, rfl, rfl, rfl, rfl, rfl, rfl, rfl⟩,
    fun ln h x => ?residual, fun r x0 x1 first s hclock hstate hholdover htick => ?weights⟩
  case residual =>
    refine (clampSample_toInt _).trans ?_
    refine congrArg (fun f : Fin 12 → Int => max (-8388608) (min 8388607 (x.toInt - ((List.finRange 12).map f).sum))) ?_
    funext i
    exact if_congr HumStatus.active_iff rfl rfl
  case weights =>
    obtain ⟨t, ht, hyields, _⟩ := exec_entry_running x0 x1 first hclock hstate
    have hquiet : (s.rd r).ranOn x0 x1 = processRunning ((s.rd r).exiting .lane0) ((s.rd r).exiting .lane1) ((s.rd r).sampled x0 x1) := by
      unfold Reader.ranOn Reader.monitored
      rw [if_neg, if_neg]
      · rw [Bool.not_eq_true]
        exact htick
      · rw [Bool.not_eq_true]
        exact hholdover
    rw [hquiet] at hyields
    refine ⟨t, ht, fun l => ?_⟩
    let falls := fallsBack (s.rd r).laneMode ((s.rd r).exiting l).mark ((s.rd r).exiting (twinOf l)).mark
    have hadapted : ((t.rd r).lane l).adapted = if falls then ((s.rd r).lane l).adapted else true := by
      cases l
      · exact (congrArg (fun rd => rd.lane0.adapted) hyields.still).trans (LaneState.adapted_processExit _ _ _ _ _)
      · exact (congrArg (fun rd => rd.lane1.adapted) hyields.still).trans (LaneState.adapted_processExit _ _ _ _ _)
    have hhum : ((t.rd r).lane l).hum = if falls then ((s.rd r).lane l).hum else
        (((s.rd r).lane l).adapt (s.rd r).hum (s.rd r).active
          (((s.rd r).lane l).residual (s.rd r).hum ((s.rd r).exiting l).sample)).hum := by
      cases l
      · exact (congrArg (fun rd => rd.lane0.hum) hyields.still).trans (LaneState.hum_processExit _ _ _ _ _)
      · exact (congrArg (fun rd => rd.lane1.hum) hyields.still).trans (LaneState.hum_processExit _ _ _ _ _)
    refine ⟨hadapted.trans (if_congr fallsBack_iff rfl rfl), fun i => ?_⟩
    intro x index wc ws held
    rw [hhum]
    by_cases hfalls : falls = true
    · rw [if_pos hfalls]
      exact (if_neg fun h => h.1 (fallsBack_iff.mp hfalls)).symm
    · have hheld : (holdWeight wc != wc || holdWeight ws != ws) = held := bne_or_bne _ _ _ _
      have hupdate : x.update (s.rd r).hum.slots[i].theta (s.rd r).active.hum[i].shift
          (((s.rd r).lane l).residual (s.rd r).hum ((s.rd r).exiting l).sample).toInt = _ :=
        congrArg (fun held : Bool => { x with
          wc := holdWeight wc, ws := holdWeight ws, fault := x.fault || held, fresh := x.fresh && !held }) hheld
      rw [if_neg hfalls, LaneState.hum_adapt, hupdate]
      exact if_congr ⟨fun h => ⟨fun hno => hfalls (fallsBack_iff.mpr hno), HumStatus.active_iff.mp h⟩,
        fun h => HumStatus.active_iff.mpr h.2⟩ rfl rfl

end Sys2Proof.Machine
end

section
/-! Frame events as commands: what pulses and virtual ticks do to the monitor (R23 to R38). -/

namespace Sys2Proof.Machine

/-! ## The commands that bring a frame event -/

/-- The monitor that a frame event comes to, and whether it gives S a value, so that the increments are recomputed. -/
structure Measured where
  monitor : Monitor
  recompute : Bool

/-- The reader with the monitor's own work for a frame event done (R25, R109). -/
def Reader.measured (rd : Reader) (out : Measured) : Reader :=
  if out.recompute then ({ rd with monitor := out.monitor }).recomputeHum else { rd with monitor := out.monitor }

/-- The monitor's own work for a virtual tick (R33, R35). -/
def Reader.tickOutcome (rd : Reader) : Measured :=
  let m := rd.monitor.tick rd.index
  if m.exhausted rd.active then { monitor := m.enterFree rd.active, recompute := true } else { monitor := m, recompute := false }

/-- The monitor's own work for a real pulse (R24 to R31, R34). -/
def Reader.pulseOutcome (rd : Reader) : Measured :=
  let out := rd.monitor.pulse rd.active rd.index rd.clockLost
  { monitor := out.monitor, recompute := out.recompute }

/-- The monitor's own work for a command's frame event. -/
def frameOutcome (c : Instr) (rd : Reader) : Measured :=
  match c with
  | .realPulse _ => rd.pulseOutcome
  | .holdoverEntry _ => ({ rd with monitor := rd.monitor.enterHoldover } : Reader).tickOutcome
  | _ => rd.tickOutcome

/-- What brings a command's frame event. -/
def frameKind : Instr → FrameEvent
  | .realPulse _ => .pulse
  | _ => .tick

/-- The command brings a frame event on a reader. -/
inductive BringsFrame (r : ReaderId) (rd : Reader) : Instr → Prop
  | pulse (h : rd.state = .running ∨ rd.state = .bypassed) : BringsFrame r rd (.realPulse r)
  | tick (h : rd.tickDue = true) : BringsFrame r rd (.virtualTick r)
  | holdover (h : rd.holdoverDue = true) : BringsFrame r rd (.holdoverEntry r)
  | free (h : rd.freeDue = true) : BringsFrame r rd (.freeEntry r)

theorem Reader.pulsed_eq (rd : Reader) : rd.pulsed = rd.measured rd.pulseOutcome := rfl

theorem Reader.ticked_eq (rd : Reader) : rd.ticked = rd.measured rd.tickOutcome := by
  unfold Reader.ticked Reader.measured Reader.tickOutcome
  dsimp only
  split
  · rename_i h
    have h' : (rd.monitor.tick rd.index).exhausted rd.active = true := h
    rw [if_pos h']
    rfl
  · rename_i h
    have h' : ¬ (rd.monitor.tick rd.index).exhausted rd.active = true := h
    rw [if_neg h']
    rfl

theorem Reader.started_of_tickDue {rd : Reader} (h : rd.tickDue = true) : rd.started = true := by
  unfold Reader.tickDue Reader.monitorActs at h
  simp only [Bool.and_eq_true] at h
  exact h.1.1

theorem Reader.started_of_holdoverDue {rd : Reader} (h : rd.holdoverDue = true) : rd.started = true := by
  unfold Reader.holdoverDue Reader.monitorActs at h
  simp only [Bool.and_eq_true] at h
  exact h.1.1.1

theorem Reader.tickDue_of_freeDue {rd : Reader} (h : rd.freeDue = true) : rd.tickDue = true := by
  unfold Reader.freeDue at h
  simp only [Bool.and_eq_true] at h
  exact h.1.1

theorem BringsFrame.started {r : ReaderId} {rd : Reader} {c : Instr} (h : BringsFrame r rd c) : rd.started = true := by
  cases h with
  | pulse h => exact Reader.started_iff.mpr h
  | tick h => exact rd.started_of_tickDue h
  | holdover h => exact rd.started_of_holdoverDue h
  | free h => exact rd.started_of_tickDue (Reader.tickDue_of_freeDue h)

/-- The state behind a command that brings a frame event. -/
theorem exec_frame {r : ReaderId} {c : Instr} {s : State} (h : BringsFrame r (s.rd r) c) :
    ∃ t, exec c s = .next t ∧
      Yields r s t (((s.rd r).measured (frameOutcome c (s.rd r))).atFrame (frameKind c)) ∧
      (t.rd (otherReader r)).calm = (s.rd (otherReader r)).calm := by
  have hend : ∀ {t : State} {x : Reader}, Yields r s t x → Within r s t → exec c s = .next t.arbitrate →
      ∃ t, exec c s = .next t ∧ Yields r s t x ∧ (t.rd (otherReader r)).calm = (s.rd (otherReader r)).calm := by
    intro t x hyields hwithin hexec
    exact ⟨_, hexec, hyields.arbitrate, ((State.arbitrate_settles t).1.calm _).trans hwithin.other⟩
  cases h with
  | pulse h =>
    refine hend (t := realPulse r s) ?_ (realPulse_within r s) rfl
    have hcounted : realPulse r s = countedPulse r s := by
      unfold realPulse
      rcases h with h | h <;> rw [h]
    rw [hcounted]
    exact countedPulse_yields r s
  | tick h =>
    refine hend (t := virtualTick r s) ?_ (virtualTick_within r s) ?_
    · have hyields := virtualTick_yields r s
      rwa [Reader.ticked_eq] at hyields
    · change Host.Outcome.next (if (s.rd r).tickDue then virtualTick r s else s).arbitrate = _
      rw [if_pos h]
  | holdover h =>
    refine hend (t := holdoverEntry r s) ?_ (holdoverEntry_within r s) ?_
    · have hyields := holdoverEntry_yields r s
      unfold Reader.heldOver at hyields
      rw [Reader.ticked_eq] at hyields
      exact hyields
    · change Host.Outcome.next (if (s.rd r).holdoverDue then holdoverEntry r s else s).arbitrate = _
      rw [if_pos h]
  | free h =>
    refine hend (t := virtualTick r s) ?_ (virtualTick_within r s) ?_
    · have hyields := virtualTick_yields r s
      rwa [Reader.ticked_eq] at hyields
    · change Host.Outcome.next (if (s.rd r).freeDue then virtualTick r s else s).arbitrate = _
      rw [if_pos h]

/-! ## The monitor behind a frame event -/

theorem Reader.monitor_measured (rd : Reader) (out : Measured) : (rd.measured out).monitor = out.monitor := by
  unfold Reader.measured
  split <;> rfl

theorem Reader.besideHum_measured (rd : Reader) (out : Measured) : (rd.measured out).besideHum = rd.besideHum := by
  unfold Reader.measured
  split <;> rfl

theorem Reader.monitor_humCounted (rd : Reader) : rd.humCounted.monitor = rd.monitor := by
  unfold Reader.humCounted
  split
  · split <;> rfl
  · rfl

theorem Reader.monitor_appliedAtFrame {rd : Reader} (h : rd.started = true) :
    rd.appliedAtFrame.monitor = rd.monitorAfterApply rd.monitor := by
  unfold Reader.appliedAtFrame Reader.monitorAfterApply
  rw [h, Bool.true_and]
  split <;> rfl

theorem Reader.monitor_atFrame {rd : Reader} (h : rd.started = true) (ev : FrameEvent) :
    (rd.atFrame ev).monitor = rd.monitorAfterApply rd.monitor := by
  have htick : rd.appliedAtFrame.humCounted.monitor = rd.monitorAfterApply rd.monitor :=
    rd.appliedAtFrame.monitor_humCounted.trans (rd.monitor_appliedAtFrame h)
  cases ev <;> exact htick

theorem Reader.started_of_besideHum {a b : Reader} (h : a.besideHum = b.besideHum) : a.started = b.started :=
  show a.besideHum.started = b.besideHum.started from congrArg Reader.started h

/-- The monitor behind a command's frame event: its own work, then the clamp of an apply (R37). -/
theorem monitor_frame {r : ReaderId} {c : Instr} {s t : State} (h : BringsFrame r (s.rd r) c)
    (hyields : Yields r s t (((s.rd r).measured (frameOutcome c (s.rd r))).atFrame (frameKind c))) :
    (t.rd r).monitor = (s.rd r).monitorAfterApply (frameOutcome c (s.rd r)).monitor := by
  have hbeside := (s.rd r).besideHum_measured (frameOutcome c (s.rd r))
  have hstarted : ((s.rd r).measured (frameOutcome c (s.rd r))).started = true :=
    (Reader.started_of_besideHum hbeside).trans h.started
  have hmonitor : (t.rd r).monitor = _ := (congrArg Reader.monitor hyields.still).trans (Reader.monitor_atFrame hstarted _)
  rw [hmonitor, Reader.monitor_measured]
  unfold Reader.monitorAfterApply
  rw [Reader.params_of_besideHum hbeside]

theorem Reader.entered_atFrame (rd : Reader) (ev : FrameEvent) : (rd.atFrame ev).entered = rd.entered := by
  have htick : rd.appliedAtFrame.humCounted.entered = rd.entered := (congrArg Reader.entered rd.besideFrame_tick :)
  cases ev <;> exact htick

theorem Monitor.interval_of_none {m : Monitor} {n : Nat} {lost : Bool} (hnone : (∀ t0 : Nat, m.reference ≠ .valid t0) ∨ lost = true) :
    m.interval n lost = none := by
  unfold Monitor.interval
  split
  · rename_i t0 href
    rcases hnone with h | h
    · exact absurd href (h t0)
    · rw [h, if_pos rfl]
  · rfl
  · rfl

theorem Monitor.interval_of_valid {m : Monitor} {t0 : Nat} (href : m.reference = .valid t0) (n : Nat) :
    m.interval n false = some (since48 n t0) := by
  simp [Monitor.interval, href]

/-- The monitor with a pulse counted (R24). -/
def Monitor.counted (m : Monitor) : Monitor := { m with frameCount := holdingSucc (2 ^ 32 - 1) m.frameCount }

theorem Reader.monitor_pulseOutcome (rd : Reader) :
    rd.pulseOutcome.monitor =
      (rd.monitor.counted.judge rd.active (rd.monitor.interval rd.index rd.clockLost)).monitor.refer rd.index rd.clockLost := rfl

theorem Monitor.judge_of_tracking {m : Monitor} (h : m.state = .tracking) (p : ParamSet) (i : Option Nat) :
    m.counted.judge p i = m.counted.judgeTracking p i := by
  have hstate : m.counted.state = .tracking := h
  rw [Monitor.judge, hstate]

theorem Monitor.judge_of_holdover {m : Monitor} (h : m.state = .holdover) (p : ParamSet) (i : Option Nat) :
    m.counted.judge p i = m.counted.endHoldover := by
  have hstate : m.counted.state = .holdover := h
  rw [Monitor.judge, hstate]

theorem Monitor.judge_of_seeding {m : Monitor} (h : m.state ≠ .tracking) (h' : m.state ≠ .holdover) (p : ParamSet) (i : Option Nat) :
    m.counted.judge p i = m.counted.judgeSeeding p i := by
  have hstate : m.counted.state = m.state := rfl
  rw [Monitor.judge, hstate]
  cases hm : m.state with
  | tracking => exact absurd hm h
  | holdover => exact absurd hm h'
  | absent | free => rfl

theorem Monitor.accepts_iff {m : Monitor} {p : ParamSet} {n : Nat} :
    m.counted.accepts p n = true ↔
      (p.pmin ≤ n ∧ n ≤ p.pmax) ∧ m.smoothed - m.smoothed / 8 ≤ 16 * n ∧ 16 * n ≤ m.smoothed + m.smoothed / 8 := by
  simp only [Monitor.accepts, inBounds, Bool.and_eq_true, decide_eq_true_eq, and_assoc]
  rfl

theorem inBounds_iff {p : ParamSet} {n : Nat} : inBounds p n = true ↔ p.pmin ≤ n ∧ n ≤ p.pmax := by
  simp only [inBounds, Bool.and_eq_true, decide_eq_true_eq]

theorem intervalsAgree_iff {first n : Nat} :
    intervalsAgree first n = true ↔ (16 * (n : Int) - 16 * first).natAbs ≤ 16 * first / 8 := by
  simp only [intervalsAgree, decide_eq_true_eq]

/-- Settles O38: the judgement of a pulse in TRACKING that is accepted or has no interval. -/
theorem trackingFollowsAcceptedIntervals : Obligations.TrackingFollowsAcceptedIntervals := by
  unfold Obligations.TrackingFollowsAcceptedIntervals
  intro r s hstate htracking
  have hbrings : BringsFrame r (s.rd r) (.realPulse r) := .pulse hstate
  obtain ⟨t, ht, hyields, hother⟩ := exec_frame hbrings
  have hmonitor := monitor_frame hbrings hyields
  refine ⟨t, ht, ?_⟩
  dsimp only
  refine ⟨fun t0 href hclock hmin hmax hlow hhigh => ?accepted, fun hnone => ?discarded, ?entered, hother⟩
  case entered =>
    refine (congrArg Reader.entered hyields.still).trans ((Reader.entered_atFrame _ _).trans ?_)
    exact (congrArg Reader.entered (Reader.besideHum_measured _ _) :)
  case accepted =>
    have haccepts := Monitor.accepts_iff.mpr ⟨⟨hmin, hmax⟩, hlow, hhigh⟩
    have houtcome := (s.rd r).monitor_pulseOutcome
    rw [Monitor.judge_of_tracking htracking, hclock, Monitor.interval_of_valid href] at houtcome
    rw [hmonitor]
    refine congrArg _ (houtcome.trans ?_)
    rw [Monitor.judgeTracking, since48, if_pos haccepts, hclock]
    rfl
  case discarded =>
    have houtcome := (s.rd r).monitor_pulseOutcome
    rw [Monitor.judge_of_tracking htracking, Monitor.interval_of_none hnone] at houtcome
    rw [hmonitor]
    exact congrArg _ houtcome

/-- What a rejected interval leaves beside its glitch: the rejected run and S (R29, R30). -/
def Monitor.rejectedTo (m : Monitor) (run : List Nat) (smoothed : Nat) : Monitor :=
  { m with glitches := holdingSucc 65535 m.glitches, rejected := run, smoothed := smoothed }

theorem Monitor.reject_outside {m : Monitor} {p : ParamSet} {n : Nat} (h : ¬ inBounds p n = true) :
    (m.counted.reject p n).monitor = m.counted.rejectedTo [] m.smoothed := by
  unfold Monitor.reject
  dsimp only
  rw [if_neg h]
  rfl

theorem Monitor.reject_first {m : Monitor} {p : ParamSet} {n : Nat} (h : inBounds p n = true) (hrun : m.counted.rejected = []) :
    (m.counted.reject p n).monitor = m.counted.rejectedTo [n] m.smoothed := by
  unfold Monitor.reject
  dsimp only
  rw [if_pos h, hrun]
  rfl

theorem Monitor.reject_second {m : Monitor} {p : ParamSet} {n p1 : Nat} (h : inBounds p n = true)
    (hrun : m.counted.rejected = [p1]) :
    (m.counted.reject p n).monitor =
      m.counted.rejectedTo (if intervalsAgree p1 n then [p1, n] else [n]) m.smoothed := by
  unfold Monitor.reject
  dsimp only
  rw [if_pos h, hrun]
  dsimp only
  split <;> rfl

theorem Monitor.reject_third {m : Monitor} {p : ParamSet} {n p1 p2 : Nat} {more : List Nat} (h : inBounds p n = true)
    (hrun : m.counted.rejected = p1 :: p2 :: more) :
    (m.counted.reject p n).monitor =
      if intervalsAgree p1 n then m.counted.rejectedTo [] (16 * n) else m.counted.rejectedTo [n] m.smoothed := by
  unfold Monitor.reject
  dsimp only
  rw [if_pos h, hrun]
  dsimp only
  split <;> rfl

/-- Settles O39: the rejected run as it stood decides. -/
theorem rejectedIntervalsReseed : Obligations.RejectedIntervalsReseed := by
  unfold Obligations.RejectedIntervalsReseed
  intro r s t0 hstate htracking href hclock rd m interval inside hrejects
  have hbrings : BringsFrame r (s.rd r) (.realPulse r) := .pulse hstate
  obtain ⟨t, ht, hyields, hother⟩ := exec_frame hbrings
  have hmonitor := monitor_frame hbrings hyields
  refine ⟨t, ht, ?_⟩
  have houtcome := (s.rd r).monitor_pulseOutcome
  rw [Monitor.judge_of_tracking htracking, hclock, Monitor.interval_of_valid href] at houtcome
  have haccepts : ¬ (s.rd r).monitor.counted.accepts (s.rd r).active interval = true := by
    rw [Monitor.accepts_iff]
    exact hrejects
  intro agrees after
  rw [hmonitor]
  refine congrArg _ (houtcome.trans ?_)
  change ((s.rd r).monitor.counted.judgeTracking (s.rd r).active (some interval)).monitor.refer _ _ = _
  rw [Monitor.judgeTracking, if_neg haccepts]
  by_cases hin : inside
  · have hagrees : ∀ first, agrees first ↔ intervalsAgree first interval = true := fun _ => intervalsAgree_iff.symm
    rcases hrejected : (s.rd r).monitor.rejected with _ | ⟨p1, _ | ⟨p2, more⟩⟩
    · have hafter : after = ([interval], m.smoothed) := by
        simp only [after, if_neg (not_not.mpr hin), m, rd, hrejected]
      rw [Monitor.reject_first (inBounds_iff.mpr hin) hrejected, hafter]
      rfl
    · have hafter : after = if agrees p1 then ([p1, interval], m.smoothed) else ([interval], m.smoothed) := by
        simp only [after, if_neg (not_not.mpr hin), m, rd, hrejected]
      rw [Monitor.reject_second (inBounds_iff.mpr hin) hrejected, hafter]
      by_cases h : agrees p1
      · rw [if_pos h, if_pos ((hagrees p1).mp h)]
        rfl
      · rw [if_neg h, if_neg (mt (hagrees p1).mpr h)]
        rfl
    · have hafter : after = if agrees p1 then ([], 16 * interval) else ([interval], m.smoothed) := by
        simp only [after, if_neg (not_not.mpr hin), m, rd, hrejected]
      rw [Monitor.reject_third (inBounds_iff.mpr hin) hrejected, hafter]
      by_cases h : agrees p1
      · rw [if_pos h, if_pos ((hagrees p1).mp h)]
        rfl
      · rw [if_neg h, if_neg (mt (hagrees p1).mpr h)]
        rfl
  · have hafter : after = ([], m.smoothed) := if_pos hin
    rw [Monitor.reject_outside fun h => hin (inBounds_iff.mp h), hafter]
    rfl

/-- Settles O40: each state that is not TRACKING judges the pulse by its own rule. -/
theorem pulseEntersTracking : Obligations.PulseEntersTracking := by
  unfold Obligations.PulseEntersTracking
  intro r s hstate hnot
  have hbrings : BringsFrame r (s.rd r) (.realPulse r) := .pulse hstate
  obtain ⟨t, ht, hyields, hother⟩ := exec_frame hbrings
  have hmonitor := monitor_frame hbrings hyields
  refine ⟨t, ht, ?_⟩
  dsimp only
  rw [hmonitor]
  have houtcome := (s.rd r).monitor_pulseOutcome
  refine ⟨fun hholdover => congrArg _ ?_, fun hseeds hnone => congrArg _ ?_, fun hseeds hclock t0 href =>
    ⟨fun hin => congrArg _ ?_, fun hout => congrArg _ ?_⟩⟩
  · rw [Monitor.judge_of_holdover hholdover] at houtcome
    exact houtcome
  · rw [Monitor.judge_of_seeding hnot hseeds, Monitor.interval_of_none hnone] at houtcome
    exact houtcome
  · rw [Monitor.judge_of_seeding hnot hseeds, hclock, Monitor.interval_of_valid href, Monitor.judgeSeeding, since48,
      if_pos (inBounds_iff.mpr hin)] at houtcome
    rw [hclock]
    exact houtcome
  · rw [Monitor.judge_of_seeding hnot hseeds, hclock, Monitor.interval_of_valid href, Monitor.judgeSeeding, since48,
      if_neg fun h => hout.elim (Nat.not_lt.mpr (inBounds_iff.mp h).1) (Nat.not_lt.mpr (inBounds_iff.mp h).2)] at houtcome
    rw [hclock]
    exact houtcome

end Sys2Proof.Machine
end

section
/-! HOLDOVER and its ticks, and the hum canceller at frame events (R32 to R35, R108 to R111, R116 to R120). -/

namespace Sys2Proof.Machine

/-! ## HOLDOVER, virtual ticks and FREE -/

/-- A virtual tick by the monitor's state and count (R33, R35). -/
theorem Reader.monitor_tickOutcome (rd : Reader) :
    rd.tickOutcome.monitor =
      if decide (rd.monitor.state = .holdover ∧ rd.active.holdover ≤ rd.monitor.holdoverTicks + 1) then
        { rd.monitor with
          state := .free, smoothed := rd.active.pn, holdoverTicks := 0, rejected := [], lastEvent := rd.index }
      else if rd.monitor.state = .holdover then
        { rd.monitor with holdoverTicks := rd.monitor.holdoverTicks + 1, lastEvent := rd.index }
      else { rd.monitor with lastEvent := rd.index } := by
  unfold Reader.tickOutcome Monitor.exhausted Monitor.tick
  cases hstate : rd.monitor.state with
  | holdover =>
    by_cases hcount : rd.active.holdover ≤ rd.monitor.holdoverTicks + 1
    · simp [hcount, Monitor.enterFree]
    · simp [hcount, hstate]
  | absent | tracking | free => simp [hstate]

/-- The first virtual tick of HOLDOVER (R32). -/
theorem Reader.monitor_holdoverOutcome (rd : Reader) :
    ({ rd with monitor := rd.monitor.enterHoldover } : Reader).tickOutcome.monitor =
      if 2 ≤ rd.active.holdover then
        { rd.monitor with state := .holdover, rejected := [], holdoverTicks := 1, lastEvent := rd.index }
      else
        { rd.monitor with
          state := .free, rejected := [], holdoverTicks := 0, lastEvent := rd.index, smoothed := rd.active.pn } := by
  rw [Reader.monitor_tickOutcome]
  by_cases h : 2 ≤ rd.active.holdover
  · rw [if_pos h]
    exact (if_neg fun hd => Nat.not_le.mpr h (of_decide_eq_true hd).2).trans (if_pos rfl)
  · rw [if_neg h]
    exact if_pos (decide_eq_true ⟨rfl, Nat.le_of_lt_succ (Nat.not_le.mp h)⟩)

theorem Reader.monitor_monitored (rd : Reader) :
    rd.monitored.monitor =
      if rd.holdoverDue then rd.monitorAfterApply ({ rd with monitor := rd.monitor.enterHoldover } : Reader).tickOutcome.monitor
      else if rd.tickDue then rd.monitorAfterApply rd.tickOutcome.monitor
      else rd.monitor := by
  have hticked : ∀ x : Reader, x.started = true → (x.ticked.atFrame .tick).monitor = x.monitorAfterApply x.tickOutcome.monitor := by
    intro x hx
    have hbeside := x.besideHum_ticked
    rw [Reader.monitor_atFrame ((Reader.started_of_besideHum hbeside).trans hx), Reader.ticked_eq, Reader.monitor_measured]
    unfold Reader.monitorAfterApply
    rw [← Reader.ticked_eq, Reader.params_of_besideHum hbeside]
  unfold Reader.monitored
  split
  · rename_i hdue
    have hstarted : rd.started = true := Reader.started_of_holdoverDue hdue
    exact hticked { rd with monitor := rd.monitor.enterHoldover } hstarted
  · split
    · rename_i hdue
      exact hticked _ (Reader.started_of_tickDue hdue)
    · rfl

/-- The reports of the entry into HOLDOVER stand first (R39). -/
theorem holdoverEntry_bodies {r : ReaderId} {s : State} (h : (s.rd r).holdoverDue = true) :
    ∃ t, exec (.holdoverEntry r) s = .next t ∧ ∃ more, t.queue.bodies =
      s.queue.bodies ++ s.kept (r, .frms .holdover .holdover (s.rd r).monitor.smoothed (s.rd r).monitor.frameCount (s.rd r).index) ++
        more := by
  obtain ⟨more, hmore⟩ := (virtualTick_yields r (enterHoldover r s)).arbitrate.grows
  refine ⟨(virtualTick r (enterHoldover r s)).arbitrate, ?_, more, ?_⟩
  · change Host.Outcome.next (if (s.rd r).holdoverDue then holdoverEntry r s else s).arbitrate = _
    rw [if_pos h]
    rfl
  · rw [← hmore]
    refine congrArg (· ++ more) ?_
    unfold enterHoldover State.offerFrms
    dsimp only
    rw [State.bodies_offer, State.onReader_queue, State.kept_congr (State.onReader_queue _ _ _), State.rd_onReader_self]
    rfl

theorem Monitor.frameCount_tick (m : Monitor) (n : Nat) : (m.tick n).frameCount = m.frameCount := by
  unfold Monitor.tick
  split <;> rfl

/-- The reports of the entry into FREE stand first (R39). -/
theorem freeEntry_bodies {r : ReaderId} {s : State} (h : (s.rd r).freeDue = true) :
    ∃ t, exec (.freeEntry r) s = .next t ∧ ∃ more, t.queue.bodies =
      s.queue.bodies ++ s.kept (r, .frms .free .free (s.rd r).active.pn (s.rd r).monitor.frameCount (s.rd r).index) ++ more := by
  have htick : ((s.rd r).monitor.tick (s.rd r).index).exhausted (s.rd r).active = true := by
    unfold Reader.freeDue at h
    simp only [Bool.and_eq_true, beq_iff_eq, decide_eq_true_eq] at h
    obtain ⟨⟨_, hstate⟩, hcount⟩ := h
    simp [Monitor.tick, Monitor.exhausted, hstate, hcount]
  let entered := s.onReader r fun x => { x with monitor := (x.monitor.tick (s.rd r).index).enterFree x.active }
  let told := entered.offerFrms r .free (s.rd r).index
  have hmonitor : monitorTick r s = recomputeIncrements r (s.rd r).index told.evaluateWatches := by
    unfold monitorTick
    dsimp only
    simp only [State.rd_onReader_self, State.onReader_onReader]
    exact if_pos htick
  have hyields : Yields r told (virtualTick r s) ((told.rd r).recomputeHum.atFrame .tick) := by
    unfold virtualTick
    rw [hmonitor]
    exact ((Works.refl r told).watches.trans still_recomputeHum (recomputeIncrements_yields r _ _)).trans
      (still_atFrame .tick) (frameEvent_yields r .tick _ _)
  obtain ⟨more, hmore⟩ := hyields.arbitrate.grows
  refine ⟨(virtualTick r s).arbitrate, ?_, more, ?_⟩
  · change Host.Outcome.next (if (s.rd r).freeDue then virtualTick r s else s).arbitrate = _
    rw [if_pos h]
  · rw [← hmore]
    refine congrArg (· ++ more) ?_
    simp only [told, entered, State.offerFrms]
    rw [State.bodies_offer, State.onReader_queue, State.kept_congr (State.onReader_queue _ _ _), State.rd_onReader_self]
    rw [← Monitor.frameCount_tick (s.rd r).monitor (s.rd r).index]
    rfl

/-- Settles O45: the monitor's own work for a tick, and the apply's clamp behind it. -/
theorem holdoverTicksCountToFree : Obligations.HoldoverTicksCountToFree := by
  unfold Obligations.HoldoverTicksCountToFree
  refine ⟨fun r s hdue => ?holdover, fun r s hdue => ⟨?tick, fun hexhausts => ?free⟩, fun r x0 x1 first s hclock hstate => ?entry⟩
  case holdover =>
    obtain ⟨t, ht, hyields, hother⟩ := exec_frame (.holdover hdue)
    obtain ⟨t', ht', hbodies⟩ := holdoverEntry_bodies hdue
    obtain rfl : t' = t := Host.Outcome.next.inj (ht'.symm.trans ht)
    refine ⟨t', ht, ?_, hother, hbodies⟩
    exact (monitor_frame (.holdover hdue) hyields).trans (congrArg _ (Reader.monitor_holdoverOutcome _))
  case tick =>
    obtain ⟨t, ht, hyields, hother⟩ := exec_frame (.tick hdue)
    refine ⟨t, ht, (monitor_frame (.tick hdue) hyields).trans (congrArg _ (Reader.monitor_tickOutcome _)), ?_, ?_, hother⟩
    · exact (congrArg Reader.schedule hyields.still).trans
        ((congrArg Reader.schedule (Reader.besideFrame_tick _) :).trans (congrArg Reader.schedule (Reader.besideHum_measured _ _) :))
    · exact (congrArg Reader.exclusions hyields.still).trans
        ((congrArg Reader.exclusions (Reader.besideFrame_tick _) :).trans
          (congrArg Reader.exclusions (Reader.besideHum_measured _ _) :))
  case free =>
    have hfree : (s.rd r).freeDue = true := by
      obtain ⟨hholdover, hcount⟩ := of_decide_eq_true hexhausts
      unfold Reader.freeDue
      simp [hdue, hholdover, hcount]
    obtain ⟨t, ht, hyields, hother⟩ := exec_frame (.free hfree)
    obtain ⟨t', ht', hbodies⟩ := freeEntry_bodies hfree
    obtain rfl : t' = t := Host.Outcome.next.inj (ht'.symm.trans ht)
    exact ⟨t', ht, (monitor_frame (.free hfree) hyields).trans (congrArg _ (Reader.monitor_tickOutcome _)), hbodies⟩
  case entry =>
    rcases hstate with hstate | hstate
    · obtain ⟨t, ht, hyields, _⟩ := exec_entry_running x0 x1 first hclock hstate
      refine ⟨t, ht, (congrArg Reader.monitor hyields.still).trans ((Reader.monitor_monitored _).trans ?_)⟩
      rw [Reader.monitor_holdoverOutcome, Reader.monitor_tickOutcome]
      rfl
    · obtain ⟨t, ht, hyields, _⟩ := exec_entry_bypassed x0 x1 first hclock hstate
      refine ⟨t, ht, (congrArg Reader.monitor hyields.still).trans ((Reader.monitor_monitored _).trans ?_)⟩
      rw [Reader.monitor_holdoverOutcome, Reader.monitor_tickOutcome]
      rfl

/-! ## The hum canceller behind a frame event -/

/-- A reader without the lists that real pulses move. -/
def Reader.besideLists (rd : Reader) : Reader := { rd with schedule := [], exclusions := [] }

theorem Reader.besideLists_atFrame (rd : Reader) (ev : FrameEvent) :
    (rd.atFrame ev).besideLists = (rd.atFrame .tick).besideLists := by
  cases ev <;> rfl

/-- What a command's frame event leaves beside the lists and the table's work. -/
theorem besideLists_frame {r : ReaderId} {c : Instr} {s t : State}
    (hyields : Yields r s t (((s.rd r).measured (frameOutcome c (s.rd r))).atFrame (frameKind c))) :
    (t.rd r).still.besideLists = (((s.rd r).measured (frameOutcome c (s.rd r))).atFrame .tick).still.besideLists := by
  have hlists : ∀ x y : Reader, x.besideLists = y.besideLists → x.still.besideLists = y.still.besideLists :=
    fun _ _ h => congrArg Reader.still h
  exact (congrArg Reader.besideLists hyields.still).trans (hlists _ _ (Reader.besideLists_atFrame _ _))

/-- A lane's hum slots and its adapted mark. -/
def LaneState.humState (ln : LaneState) : Vector HumLaneSlot 12 × Bool := (ln.hum, ln.adapted)

theorem Reader.humState_of_besideLists {x y : Reader} (h : x.still.besideLists = y.still.besideLists) (l : Lane) :
    (x.lane l).humState = (y.lane l).humState := by
  cases l
  · exact congrArg (fun rd => rd.lane0.humState) h
  · exact congrArg (fun rd => rd.lane1.humState) h

theorem Reader.hum_of_besideLists {x y : Reader} (h : x.still.besideLists = y.still.besideLists) : x.hum = y.hum :=
  show x.still.besideLists.hum = y.still.besideLists.hum from congrArg Reader.hum h

/-- A slot whose increment is in band stands through a recomputation (R110). -/
theorem HumLaneSlot.bandTest_of_inBand {x : HumLaneSlot} {delta : BitVec 32} (h : delta.toNat < 2 ^ 31) : x.bandTest delta = x := by
  have hband : outOfBand delta = false := decide_eq_false (Nat.not_le.mpr h)
  rw [HumLaneSlot.bandTest, hband, Bool.and_false]
  rfl

theorem LaneState.hum_bandTest (ln : LaneState) (h : Hum) (i : Fin 12) :
    (ln.bandTest h).hum[i] = ln.hum[i].bandTest h.slots[i].delta := by
  simp only [LaneState.bandTest, Fin.getElem_fin, Vector.getElem_ofFn]

/-- A hum slot behind the monitor's own work: the band test of a recomputation (R110). -/
theorem Reader.hum_measured (rd : Reader) (out : Measured) (l : Lane) (i : Fin 12) :
    ((rd.measured out).lane l).hum[i] =
      if out.recompute then (rd.lane l).hum[i].bandTest (rd.measured out).hum.slots[i].delta else (rd.lane l).hum[i] := by
  by_cases h : out.recompute = true
  · have hmeasured : rd.measured out = ({ rd with monitor := out.monitor } : Reader).recomputeHum := if_pos h
    rw [hmeasured, if_pos h]
    cases l <;> exact LaneState.hum_bandTest _ _ _
  · have hmeasured : rd.measured out = { rd with monitor := out.monitor } := if_neg h
    rw [hmeasured, if_neg h]
    cases l <;> rfl

/-- The monitor's own work leaves the slots in band. -/
theorem Reader.hum_measured_of_inBand {rd : Reader} {out : Measured} {i : Fin 12}
    (h : (rd.measured out).hum.slots[i].delta.toNat < 2 ^ 31) (l : Lane) :
    ((rd.measured out).lane l).hum[i] = (rd.lane l).hum[i] := by
  rw [Reader.hum_measured, HumLaneSlot.bandTest_of_inBand h, ite_self]

theorem Reader.adapted_measured (rd : Reader) (out : Measured) (l : Lane) :
    ((rd.measured out).lane l).adapted = (rd.lane l).adapted := by
  unfold Reader.measured
  split <;> cases l <;> rfl

theorem Reader.periodCounter_measured (rd : Reader) (out : Measured) :
    (rd.measured out).hum.periodCounter = rd.hum.periodCounter := by
  unfold Reader.measured
  split <;> rfl

theorem Reader.humFault_measured (rd : Reader) (out : Measured) : (rd.measured out).hum.humFault = rd.hum.humFault := by
  unfold Reader.measured
  split <;> rfl

theorem Vector.getElem_fin_map {α β : Type} {n : Nat} (f : α → β) (v : Vector α n) (i : Fin n) : (v.map f)[i] = f v[i] := by
  simp

theorem LaneState.hum_judgeHum (ln : LaneState) (i : Fin 12) :
    ln.judgeHum.hum[i] = if ln.adapted && ln.hum[i].status.active then ln.hum[i].judge else ln.hum[i] := by
  unfold LaneState.judgeHum
  dsimp only
  cases ln.adapted with
  | true => exact Vector.getElem_fin_map _ _ _
  | false => rfl

/-- A judgement leaves what a lane's faults are told by (R120). -/
theorem LaneState.humFaulted_judgeHum (ln : LaneState) : ln.judgeHum.humFaulted = ln.humFaulted := by
  unfold LaneState.humFaulted LaneState.judgeHum
  dsimp only
  split
  · rw [Vector.any_map]
    refine congrArg (Vector.any ln.hum) (funext fun x => ?_)
    change ((if x.status.active then x.judge else x).status.active && (if x.status.active then x.judge else x).fault) = _
    split <;> rfl
  · rfl

/-- The period count of a reader in RUNNING (R117). -/
theorem Reader.humCounted_of_running {rd : Reader} (h : rd.state = .running) :
    rd.humCounted = if rd.active.monitorPeriod ≤ rd.hum.periodCounter + 1 then rd.humCount.settleHum else rd.humCount := by
  have hdue : rd.humCount.periodDue = decide (rd.active.monitorPeriod ≤ rd.hum.periodCounter + 1) := by
    have hstate : rd.humCount.state = .running := h
    unfold Reader.periodDue
    rw [hstate]
    rfl
  rw [Reader.humCounted, h, hdue]
  exact (if_pos rfl).trans (if_congr decide_eq_true_iff rfl rfl)

theorem ends_offerHums (s : State) (r : ReaderId) (cause : HumsCause) (index : Nat) (old : Reader) :
    Ends s (s.offerHums r cause index old) := by
  unfold State.offerHums
  split
  · exact Ends.refl s
  · exact ends_offer s r _

/-- The hum canceller behind the judgement of a frame event (R116 to R118). -/
theorem Reader.humCounted_spec {rd : Reader} (h : rd.state = .running) :
    let ends := rd.active.monitorPeriod ≤ rd.hum.periodCounter + 1
    rd.humCounted.hum.slots = rd.hum.slots ∧
    rd.humCounted.hum.periodCounter = (if ends then 0 else rd.hum.periodCounter + 1) ∧
    rd.humCounted.hum.humFault = (if ends then rd.lane0.humFaulted || rd.lane1.humFaulted else rd.hum.humFault) ∧
    ∀ l : Lane, (rd.humCounted.lane l).adapted = false ∧
      ∀ i : Fin 12, (rd.humCounted.lane l).hum[i] =
        if ends then (rd.lane l).judgeHum.hum[i].settle else (rd.lane l).judgeHum.hum[i] := by
  intro ends
  rw [Reader.humCounted_of_running h]
  by_cases hends : ends
  · simp only [ends] at hends
    simp only [ends, if_pos hends]
    refine ⟨rfl, rfl, ?_, fun l => ⟨by cases l <;> rfl, fun i => ?_⟩⟩
    · exact congrArg₂ or (LaneState.humFaulted_judgeHum _) (LaneState.humFaulted_judgeHum _)
    · have hlane : (rd.humCount.settleHum.lane l).hum = (rd.lane l).judgeHum.hum.map HumLaneSlot.settle := by cases l <;> rfl
      exact (congrArg (fun v : Vector HumLaneSlot 12 => v[i]) hlane).trans (Vector.getElem_fin_map _ _ _)
  · simp only [ends] at hends
    simp only [ends, if_neg hends]
    exact ⟨rfl, rfl, rfl, fun l => ⟨by cases l <;> rfl, fun i => by cases l <;> rfl⟩⟩

theorem HumLaneSlot.judge_eq (x : HumLaneSlot) :
    x.judge = { x with
      fresh := x.fresh || (!x.fault && decide (64 ≤ max x.wc.natAbs x.ws.natAbs + min x.wc.natAbs x.ws.natAbs / 2 ∧
        (((max x.wc.natAbs x.ws.natAbs + min x.wc.natAbs x.ws.natAbs / 2 : Nat) : Int) - x.aPrev).natAbs * 8 ≤ x.aPrev))
      aPrev := max x.wc.natAbs x.ws.natAbs + min x.wc.natAbs x.ws.natAbs / 2 } := by
  rw [Bool.decide_and, ← Bool.and_assoc]
  rfl

/-- Settles O49: the settlement slot by slot; a frame event judges, counts and settles. -/
theorem periodEndSettlesSlots : Obligations.PeriodEndSettlesSlots := by
  unfold Obligations.PeriodEndSettlesSlots
  intro active settled faulted
  have hactive : ∀ x : HumLaneSlot, active x = x.status.active := by
    intro x
    simp only [active]
    cases x.status <;> rfl
  have hsettled : settled = HumLaneSlot.settle := by
    funext x
    simp only [settled, hactive, HumLaneSlot.settle]
    cases x.fault <;> rfl
  have hfaulted : ∀ rd : Reader, faulted rd = (rd.lane0.humFaulted || rd.lane1.humFaulted) := by
    intro rd
    simp only [faulted, hactive, LaneState.humFaulted]
  rw [hsettled]
  refine ⟨fun r s hstate hperiod => ?row, fun r c s hstate hwithheld hcommand => ?frame⟩
  case row =>
    have hdue : (s.rd r).periodDue = true := by simp [Reader.periodDue, hstate, hperiod]
    refine ⟨(endPeriod r (s.rd r).monitor.lastEvent s).arbitrate, ?_, ?_⟩
    · change Host.Outcome.next (if (s.rd r).periodDue then _ else s).arbitrate = _
      rw [if_pos hdue]
    · have hreader : (fun rd : Reader => ({ rd with
          hum := { rd.hum with periodCounter := 0, humFault := faulted rd }
          lane0 := { rd.lane0 with hum := rd.lane0.hum.map HumLaneSlot.settle }
          lane1 := { rd.lane1 with hum := rd.lane1.hum.map HumLaneSlot.settle } } : Reader)) = Reader.settleHum := by
        funext rd
        rw [hfaulted]
        rfl
      rw [hreader]
      exact ((ends_offerHums _ r _ _ _).trans (State.evaluateWatches_settles _).1).trans (State.arbitrate_settles _).1
  case frame =>
    have hbrings : BringsFrame r (s.rd r) c := by
      rcases hcommand with rfl | ⟨rfl, hdue⟩ | ⟨rfl, hdue⟩ | ⟨rfl, hdue⟩
      · exact .pulse (.inl hstate)
      · exact .tick hdue
      · exact .holdover hdue
      · exact .free hdue
    obtain ⟨t, ht, hyields, _⟩ := exec_frame hbrings
    refine ⟨t, ht, ?_⟩
    let q := (s.rd r).measured (frameOutcome c (s.rd r))
    have hbeside : q.besideHum = (s.rd r).besideHum := Reader.besideHum_measured _ _
    have hqstate : q.state = .running := (congrArg Reader.state hbeside :).trans hstate
    have hparams : q.params = (s.rd r).params := Reader.params_of_besideHum hbeside
    have hactiveSet : q.active = (s.rd r).active := congrArg (fun p : Params => p.setOf .active) hparams
    have hcount : q.hum.periodCounter = (s.rd r).hum.periodCounter := Reader.periodCounter_measured _ _
    have hfault : q.hum.humFault = (s.rd r).hum.humFault := Reader.humFault_measured _ _
    have hframe : (t.rd r).still.besideLists = q.humCounted.still.besideLists := by
      have htick : q.atFrame .tick = q.humCounted := by
        change q.appliedAtFrame.humCounted = _
        rw [Reader.appliedAtFrame_of_withheld (hparams ▸ hwithheld)]
      rw [← htick]
      exact besideLists_frame hyields
    have hhum : (t.rd r).hum = q.humCounted.hum := Reader.hum_of_besideLists hframe
    have hlane : ∀ l : Lane, ((t.rd r).lane l).humState = (q.humCounted.lane l).humState := Reader.humState_of_besideLists hframe
    obtain ⟨hslots, hcounter, hhumFault, hlanes⟩ := q.humCounted_spec hqstate
    rw [hactiveSet, hcount] at hcounter hhumFault hlanes
    dsimp only
    rw [hhum, hslots]
    refine ⟨hcounter, fun hlow => ?kept, fun hends hbands => ?faulted, fun l => ⟨?mark, fun i hband => ?slot⟩⟩
    case kept => rw [hhumFault, if_neg (Nat.not_le.mpr hlow), hfault]
    case faulted =>
      have hlane' : ∀ l : Lane, (q.lane l).hum = ((s.rd r).lane l).hum := fun l =>
        Vector.ext fun i hi => Reader.hum_measured_of_inBand (hbands ⟨i, hi⟩) l
      rw [hhumFault, if_pos hends, hfaulted]
      exact congrArg₂ or (congrArg (fun v : Vector HumLaneSlot 12 => v.any fun x => x.status.active && x.fault) (hlane' .lane0))
        (congrArg (fun v : Vector HumLaneSlot 12 => v.any fun x => x.status.active && x.fault) (hlane' .lane1))
    case mark => exact (congrArg Prod.snd (hlane l)).trans (hlanes l).1
    case slot =>
      have hslot : ((t.rd r).lane l).hum[i] = (q.humCounted.lane l).hum[i] :=
        congrArg (fun x : Vector HumLaneSlot 12 × Bool => x.1[i]) (hlane l)
      have hjudged : (q.lane l).judgeHum.hum[i] =
          if ((s.rd r).lane l).adapted && active ((s.rd r).lane l).hum[i] then ((s.rd r).lane l).hum[i].judge
          else ((s.rd r).lane l).hum[i] := by
        rw [LaneState.hum_judgeHum, Reader.hum_measured_of_inBand hband, Reader.adapted_measured, hactive]
      rw [hslot, (hlanes l).2 i, hjudged]
      simp only [HumLaneSlot.judge_eq]

end Sys2Proof.Machine
end

section
/-! Phases and increments, and the apply at a frame event (R37, R108 to R111, R123, R132, R133, R150, R152). -/

namespace Sys2Proof.Machine

/-! ## Phases -/

theorem Hum.theta_recompute (h : Hum) (p : ParamSet) (n : Nat) (i : Fin 12) : (h.recompute p n).slots[i].theta = h.slots[i].theta := by
  simp only [Hum.recompute, Fin.getElem_fin, Vector.getElem_ofFn]

theorem Hum.delta_recompute (h : Hum) (p : ParamSet) (n : Nat) (i : Fin 12) :
    (h.recompute p n).slots[i].delta = slotIncrement p.hum[i] p.mains p.nominalRate n := by
  simp only [Hum.recompute, Fin.getElem_fin, Vector.getElem_ofFn]

theorem Reader.slots_humCounted (rd : Reader) : rd.humCounted.hum.slots = rd.hum.slots := by
  unfold Reader.humCounted
  split
  · split <;> rfl
  · rfl

theorem Reader.theta_measured (rd : Reader) (out : Measured) (i : Fin 12) :
    (rd.measured out).hum.slots[i].theta = rd.hum.slots[i].theta := by
  unfold Reader.measured
  split
  · exact Hum.theta_recompute _ _ _ _
  · rfl

theorem Reader.theta_appliedAtFrame (rd : Reader) (i : Fin 12) :
    rd.appliedAtFrame.hum.slots[i].theta = rd.hum.slots[i].theta := by
  unfold Reader.appliedAtFrame
  split
  · exact Hum.theta_recompute _ _ _ _
  · rfl

theorem Reader.theta_tick (rd : Reader) (i : Fin 12) : (rd.atFrame .tick).hum.slots[i].theta = rd.hum.slots[i].theta := by
  have hcounted := Reader.slots_humCounted rd.appliedAtFrame
  exact (congrArg (fun v : Vector HumSlot 12 => v[i].theta) hcounted).trans (rd.theta_appliedAtFrame i)

/-- No frame event moves a phase (R111). -/
theorem Reader.theta_monitored (rd : Reader) (i : Fin 12) : rd.monitored.hum.slots[i].theta = rd.hum.slots[i].theta := by
  unfold Reader.monitored Reader.heldOver
  split
  · rw [Reader.theta_tick, Reader.ticked_eq, Reader.theta_measured]
  · split
    · rw [Reader.theta_tick, Reader.ticked_eq, Reader.theta_measured]
    · rfl

theorem Hum.theta_advance (h : Hum) (i : Fin 12) :
    h.advance.slots[i].theta =
      if h.slots[i].delta.toNat < 2 ^ 31 then h.slots[i].theta + h.slots[i].delta else h.slots[i].theta := by
  have hslot : h.advance.slots[i] = h.slots[i].advance := Vector.getElem_fin_map _ _ _
  rw [hslot, HumSlot.advance, outOfBand]
  by_cases hband : h.slots[i].delta.toNat < 2 ^ 31
  · rw [if_pos hband, if_neg (by simpa using hband)]
  · rw [if_neg hband, if_pos (by simpa using hband)]

/-! ## Increments -/

/-- Whether an interval in TRACKING gives S a value (R28, R30). -/
theorem Monitor.recompute_judgeTracking (m : Monitor) (p : ParamSet) (n : Nat) :
    (m.judgeTracking p (some n)).recompute =
      (inBounds p n && (decide (m.smoothed - m.smoothed / 8 ≤ 16 * n ∧ 16 * n ≤ m.smoothed + m.smoothed / 8) ||
        (match m.rejected with
          | p1 :: _ :: _ => intervalsAgree p1 n
          | [_] => false
          | [] => false))) := by
  have haccepts : m.accepts p n =
      (inBounds p n && decide (m.smoothed - m.smoothed / 8 ≤ 16 * n ∧ 16 * n ≤ m.smoothed + m.smoothed / 8)) := by
    rw [Bool.decide_and, ← Bool.and_assoc]
    rfl
  unfold Monitor.judgeTracking
  dsimp only
  rw [haccepts]
  unfold Monitor.reject
  dsimp only
  cases inBounds p n with
  | false => rfl
  | true =>
    cases decide (m.smoothed - m.smoothed / 8 ≤ 16 * n ∧ 16 * n ≤ m.smoothed + m.smoothed / 8) with
    | true => rfl
    | false =>
      rcases m.rejected with _ | ⟨p1, _ | ⟨p2, more⟩⟩
      · rfl
      · cases h : intervalsAgree p1 n <;> simp [h]
      · cases h : intervalsAgree p1 n <;> simp [h]

theorem Monitor.recompute_judgeSeeding (m : Monitor) (p : ParamSet) (n : Nat) :
    (m.judgeSeeding p (some n)).recompute = inBounds p n := by
  unfold Monitor.judgeSeeding
  dsimp only
  cases inBounds p n <;> rfl

theorem Monitor.recompute_judge_none (m : Monitor) (p : ParamSet) : (m.judge p none).recompute = false := by
  unfold Monitor.judge
  split <;> rfl

theorem Reader.recompute_pulseOutcome (rd : Reader) :
    rd.pulseOutcome.recompute = (rd.monitor.counted.judge rd.active (rd.monitor.interval rd.index rd.clockLost)).recompute := rfl

theorem Reader.recompute_of_freeDue {rd : Reader} (h : rd.freeDue = true) : rd.tickOutcome.recompute = true := by
  unfold Reader.freeDue at h
  simp only [Bool.and_eq_true, beq_iff_eq, decide_eq_true_eq] at h
  obtain ⟨⟨_, hstate⟩, hcount⟩ := h
  have htick : (rd.monitor.tick rd.index).exhausted rd.active = true := by simp [Monitor.tick, Monitor.exhausted, hstate, hcount]
  unfold Reader.tickOutcome
  dsimp only
  rw [if_pos htick]

theorem Reader.active_measured (rd : Reader) (out : Measured) : (rd.measured out).active = rd.active :=
  congrArg (fun p : Params => p.setOf .active) (Reader.params_of_besideHum (rd.besideHum_measured out))

theorem Reader.delta_measured (rd : Reader) (out : Measured) (i : Fin 12) :
    (rd.measured out).hum.slots[i].delta =
      if out.recompute then slotIncrement rd.active.hum[i] rd.active.mains rd.active.nominalRate out.monitor.smoothed
      else rd.hum.slots[i].delta := by
  unfold Reader.measured
  split
  · exact Hum.delta_recompute _ _ _ _
  · rfl

theorem Reader.slots_tick (rd : Reader) : (rd.atFrame .tick).hum.slots = rd.appliedAtFrame.hum.slots :=
  Reader.slots_humCounted rd.appliedAtFrame

theorem Reader.params_humCounted (rd : Reader) : rd.humCounted.params = rd.params :=
  Reader.params_of_besideHum rd.besideHum_humCounted

theorem Reader.hum_of_still {x y : Reader} (h : x.still = y.still) : x.hum = y.hum :=
  show x.still.hum = y.still.hum from congrArg Reader.hum h

/-- The phase behind an entry event in RUNNING or BYPASSED (R111). -/
theorem exec_entry_theta {r : ReaderId} {s : State} (x0 x1 : Sample) (first : Lane) (hclock : (s.rd r).clockLost = false)
    (hstate : (s.rd r).state = .running ∨ (s.rd r).state = .bypassed) :
    ∃ t, exec (.entryEvent r x0 x1 first) s = .next t ∧
      ∀ i : Fin 12, (t.rd r).hum.slots[i].theta = (s.rd r).hum.advance.slots[i].theta := by
  rcases hstate with hstate | hstate
  · obtain ⟨t, ht, hyields, _⟩ := exec_entry_running x0 x1 first hclock hstate
    refine ⟨t, ht, fun i => ?_⟩
    rw [Reader.hum_of_still hyields.still]
    exact Reader.theta_monitored _ i
  · obtain ⟨t, ht, hyields, _⟩ := exec_entry_bypassed x0 x1 first hclock hstate
    refine ⟨t, ht, fun i => ?_⟩
    rw [Reader.hum_of_still hyields.still]
    exact Reader.theta_monitored _ i

/-- A slot that is not active stands through the work of a frame event behind the recomputation. -/
theorem Reader.hum_humCounted_of_rest {rd : Reader} (l : Lane) (i : Fin 12) (h : (rd.lane l).hum[i].status.active = false) :
    (rd.humCounted.lane l).hum[i] = (rd.lane l).hum[i] := by
  by_cases hstate : rd.state = .running
  · obtain ⟨_, _, _, hlanes⟩ := rd.humCounted_spec hstate
    have hjudged : (rd.lane l).judgeHum.hum[i] = (rd.lane l).hum[i] := by
      rw [LaneState.hum_judgeHum, h, Bool.and_false]
      rfl
    rw [(hlanes l).2 i, hjudged, HumLaneSlot.settle, h]
    exact ite_self _
  · unfold Reader.humCounted
    rw [if_neg (by simpa using hstate)]

/-- A slot that a recomputation finds out of band keeps nothing, where it was active (R110). -/
theorem Reader.hum_measured_of_outOfBand {rd : Reader} {out : Measured} {l : Lane} {i : Fin 12} (hrecompute : out.recompute = true)
    (hslot : (rd.lane l).hum[i].status.active = true)
    (hband : 2 ^ 31 ≤
      (slotIncrement rd.active.hum[i] rd.active.mains rd.active.nominalRate out.monitor.smoothed).toNat) :
    ((rd.measured out).lane l).hum[i] = HumLaneSlot.cleared .outOfBand := by
  have hout : outOfBand (slotIncrement rd.active.hum[i] rd.active.mains rd.active.nominalRate out.monitor.smoothed) = true :=
    decide_eq_true hband
  rw [Reader.hum_measured, if_pos hrecompute, Reader.delta_measured, if_pos hrecompute, HumLaneSlot.bandTest, hslot, hout]
  rfl

/-- Settles O32: phases advance at entries alone, and increments follow the recomputations. -/
theorem phasesAdvanceAndIncrementsFollowS : Obligations.PhasesAdvanceAndIncrementsFollowS := by
  unfold Obligations.PhasesAdvanceAndIncrementsFollowS
  refine ⟨fun r x0 x1 first s hclock => ?phases, fun r c s hcommand => ?increments⟩
  case phases =>
    by_cases hstate : (s.rd r).state = .running ∨ (s.rd r).state = .bypassed
    · obtain ⟨t, ht, htheta⟩ := exec_entry_theta x0 x1 first hclock hstate
      refine ⟨t, ht, fun i => (htheta i).trans ((Hum.theta_advance _ i).trans ?_)⟩
      exact if_congr ⟨fun h => ⟨hstate, h⟩, And.right⟩ rfl rfl
    · have hidle : (s.rd r).state = .stopped ∨ (s.rd r).state = .armed := by
        cases h : (s.rd r).state <;> simp [h] at hstate ⊢
      obtain ⟨t, ht, hends, _⟩ := (entryBeforeStartMovesWindows r x0 x1 first s).2 hclock hidle
      refine ⟨t, ht, fun i => ?_⟩
      have hhum : (t.rd r).hum = (s.rd r).hum := by
        have hcalm := congrArg Reader.hum (hends.calm r)
        rw [State.rd_onReader_self] at hcalm
        exact hcalm
      rw [hhum]
      exact (if_neg fun h => hstate h.1).symm
  case increments =>
    have hbrings : BringsFrame r (s.rd r) c := by
      rcases hcommand with ⟨rfl, hstate⟩ | ⟨rfl, hdue⟩
      · exact .pulse hstate
      · exact .free hdue
    obtain ⟨t, ht, hyields, _⟩ := exec_frame hbrings
    refine ⟨t, ht, ?_⟩
    intro rd m inside seeds given p increment
    let out := frameOutcome c (s.rd r)
    let q := (s.rd r).measured out
    have hgiven : given = out.recompute := by
      rcases hcommand with ⟨rfl, _⟩ | ⟨rfl, hdue⟩
      · have hother : (Instr.realPulse r == Instr.freeEntry r) = false := beq_eq_false_iff_ne.mpr nofun
        change given = (s.rd r).pulseOutcome.recompute
        rw [Reader.recompute_pulseOutcome]
        simp only [given, hother, Bool.false_or, m, rd]
        cases href : (s.rd r).monitor.reference with
        | none | void t0 =>
          rw [Monitor.interval_of_none (.inl (by rw [href]; nofun))]
          exact (Monitor.recompute_judge_none _ _).symm
        | valid t0 =>
          cases hclock : (s.rd r).clockLost with
          | true =>
            rw [Monitor.interval_of_none (.inr rfl)]
            exact (Monitor.recompute_judge_none _ _).symm
          | false =>
            rw [Monitor.interval_of_valid href]
            simp only [Bool.not_false, Bool.true_and, seeds, m, rd]
            cases hstate : (s.rd r).monitor.state with
            | tracking =>
              rw [Monitor.judge_of_tracking hstate, Monitor.recompute_judgeTracking]
              rfl
            | holdover =>
              rw [Monitor.judge_of_holdover hstate]
              rfl
            | absent | free =>
              rw [Monitor.judge_of_seeding (by rw [hstate]; nofun) (by rw [hstate]; nofun), Monitor.recompute_judgeSeeding]
              rfl
      · exact (congrArg (· || _) (beq_self_eq_true (Instr.freeEntry r))).trans (Reader.recompute_of_freeDue hdue).symm
    have hbeside : q.besideHum = (s.rd r).besideHum := Reader.besideHum_measured _ _
    have hparams : q.params = (s.rd r).params := Reader.params_of_besideHum hbeside
    have hframe := besideLists_frame hyields
    have hslots : (t.rd r).hum.slots = q.appliedAtFrame.hum.slots :=
      (congrArg Hum.slots (Reader.hum_of_besideLists hframe)).trans q.slots_tick
    have hactive : p = q.appliedAtFrame.active :=
      congrArg (fun p : Params => p.setOf .active) ((congrArg Reader.params hframe).trans q.appliedAtFrame.params_humCounted)
    have hmonitor : (t.rd r).monitor = q.appliedAtFrame.monitor :=
      (congrArg Reader.monitor hframe).trans q.appliedAtFrame.monitor_humCounted
    have hincrement : ∀ i : Fin 12, increment i = slotIncrement q.appliedAtFrame.active.hum[i] q.appliedAtFrame.active.mains
        q.appliedAtFrame.active.nominalRate q.appliedAtFrame.monitor.smoothed := by
      intro i
      rw [← hactive, ← hmonitor]
      rfl
    refine ⟨fun i => ?delta, fun hgave hwithheld l i hslot hband => ?slot⟩
    case delta =>
      rw [hslots, hincrement, hgiven]
      cases hreleases : rd.params.releases with
      | true =>
        have happlied : q.appliedAtFrame = q.applied := by
          unfold Reader.appliedAtFrame
          have hstarted : q.started = true := (Reader.started_of_besideHum hbeside).trans hbrings.started
          rw [hstarted, hparams, hreleases]
          rfl
        rw [happlied, Bool.or_true]
        exact Hum.delta_recompute _ _ _ _
      | false =>
        rw [Reader.appliedAtFrame_of_withheld (hparams ▸ hreleases), Bool.or_false, Reader.delta_measured,
          Reader.active_measured, Reader.monitor_measured]
    case slot =>
      have hkept : q.appliedAtFrame = q := Reader.appliedAtFrame_of_withheld (hparams ▸ hwithheld)
      have hrecompute : out.recompute = true := hgiven.symm.trans hgave
      have hcleared : (q.lane l).hum[i] = HumLaneSlot.cleared .outOfBand := by
        rw [hincrement, hkept, Reader.active_measured, Reader.monitor_measured] at hband
        exact Reader.hum_measured_of_outOfBand hrecompute (HumStatus.active_iff.mpr hslot) hband
      have hstate := Reader.humState_of_besideLists hframe l
      refine (congrArg (fun x : Vector HumLaneSlot 12 × Bool => x.1[i]) hstate).trans ?_
      change (q.appliedAtFrame.humCounted.lane l).hum[i] = _
      rw [hkept, Reader.hum_humCounted_of_rest l i (by rw [hcleared]; rfl), hcleared]
      rfl

end Sys2Proof.Machine
end

section
/-! The apply at a frame event and the arming pulse (R8, R9, R26, R37, R123, R132, R133, R150, R152). -/

namespace Sys2Proof.Machine

/-! ## The change of roles -/

/-- The role that a slot has behind an apply (R150). -/
def Role.moved : Role → Role
  | .active => .spare
  | .edit => .edit
  | .staged => .active
  | .spare => .spare

theorem Role.moved_eq_active {x : Role} : x.moved = .active ↔ x = .staged := by cases x <;> decide

theorem Role.moved_ne_staged (x : Role) : x.moved ≠ .staged := by cases x <;> decide

theorem Params.holder_isSome_iff {p : Params} {role : Role} : (p.holder role).isSome = true ↔ role ∈ p.roles := by
  constructor
  · intro h
    obtain ⟨i, hi⟩ := Option.isSome_iff_exists.mp h
    have hrole := Params.role_of_holder hi
    exact List.count_pos_iff.mp (Params.count_pos hrole)
  · intro h
    by_contra hnone
    have hfree := Params.holder_eq_none_iff.mp (Option.not_isSome_iff_eq_none.mp hnone)
    simp only [Params.roles, List.mem_cons, List.not_mem_nil, or_false] at h
    rcases h with h | h | h
    · exact hfree .slot0 h.symm
    · exact hfree .slot1 h.symm
    · exact hfree .slot2 h.symm

theorem Params.exists_holder_active {p : Params} (h : p.RolesSound) : ∃ i, p.holder .active = some i :=
  Option.isSome_iff_exists.mp (Params.holder_isSome_iff.mpr (List.count_pos_iff.mp (by rw [h.1]; exact Nat.one_pos)))

theorem Params.slot_syncPending (p : Params) (b : Bool) (i : SlotId) : ({ p with syncPending := b } : Params).slot i = p.slot i := by
  cases i <;> rfl

theorem Params.rotate_eq {p : Params} {st ac : SlotId} (hst : p.holder .staged = some st) (hac : p.holder .active = some ac) :
    p.rotate = { (p.onSlot st fun x => { x with role := .active }).onSlot ac fun x => { x with role := .spare } with
      syncPending := false } := by
  unfold Params.rotate
  rw [hst, hac]

theorem Params.hold_rotate (p : Params) : p.rotate.hold = p.hold := by
  unfold Params.rotate
  split
  · exact (Params.onSlot_hold _ _ _).trans (Params.onSlot_hold _ _ _)
  · rfl
  · rfl

theorem Params.staged_count {p : Params} (h : p.RolesSound) {st : SlotId} (hst : p.holder .staged = some st) :
    p.roles.count .staged = 1 ∧ p.roles.count .spare = 0 := by
  obtain ⟨_, _, hthird, _⟩ := h
  have hpos := Params.count_pos (Params.role_of_holder hst)
  omega

/-- Every slot's role moves at an apply, and every set stays (R150). -/
theorem Params.slot_rotate {p : Params} (h : p.RolesSound) {st : SlotId} (hst : p.holder .staged = some st) (i : SlotId) :
    p.rotate.slot i = { role := (p.slot i).role.moved, set := (p.slot i).set } := by
  obtain ⟨ac, hac⟩ := Params.exists_holder_active h
  obtain ⟨hstaged, hspare⟩ := Params.staged_count h hst
  have hstRole := Params.role_of_holder hst
  have hacRole := Params.role_of_holder hac
  have hne : st ≠ ac := by
    rintro rfl
    rw [hstRole] at hacRole
    exact absurd hacRole nofun
  rw [Params.rotate_eq hst hac, Params.slot_syncPending]
  by_cases hiac : i = ac
  · subst hiac
    rw [Params.slot_onSlot_self, Params.slot_onSlot_of_ne _ _ _ _ hne.symm, hacRole]
    rfl
  · rw [Params.slot_onSlot_of_ne _ _ _ _ hiac]
    by_cases hist : i = st
    · subst hist
      rw [Params.slot_onSlot_self, hstRole]
      rfl
    · have hedit : (p.slot i).role = .edit := by
        cases hrole : (p.slot i).role with
        | active => exact absurd (Params.slot_unique h.1 hrole hacRole) hiac
        | edit => rfl
        | staged => exact absurd (Params.slot_unique hstaged hrole hstRole) hist
        | spare => exact absurd (Params.count_pos hrole) (by omega)
      rw [Params.slot_onSlot_of_ne _ _ _ _ hist]
      generalize hx : p.slot i = x at hedit
      obtain ⟨role, set⟩ := x
      cases hedit
      rfl

theorem Params.syncPending_rotate {p : Params} (h : p.RolesSound) {st : SlotId} (hst : p.holder .staged = some st) :
    p.rotate.syncPending = false := by
  obtain ⟨ac, hac⟩ := Params.exists_holder_active h
  rw [Params.rotate_eq hst hac]

/-- The slot that was STAGED is ACTIVE behind an apply, and no slot is STAGED then. -/
theorem Params.holder_rotate {p : Params} (h : p.RolesSound) {st : SlotId} (hst : p.holder .staged = some st) :
    p.rotate.holder .active = some st ∧ p.rotate.holder .staged = none := by
  obtain ⟨hstaged, hspare⟩ := Params.staged_count h hst
  have hstRole := Params.role_of_holder hst
  refine ⟨Params.holder_eq_some ?_ fun j hj => ?_, Params.holder_eq_none_iff.mpr fun i hi => ?_⟩
  · rw [Params.slot_rotate h hst, hstRole]
    rfl
  · rw [Params.slot_rotate h hst] at hj
    exact Params.slot_unique hstaged (Role.moved_eq_active.mp hj) hstRole
  · rw [Params.slot_rotate h hst] at hi
    exact (p.slot i).role.moved_ne_staged hi

theorem Params.rotate_of_none {p : Params} (h : p.holder .staged = none) : p.rotate = p := by
  unfold Params.rotate
  rw [h]

theorem Params.releases_iff {p : Params} :
    p.releases = true ↔ Role.staged ∈ p.roles ∧ (p.hold = false ∨ p.syncPending = true) := by
  unfold Params.releases
  rw [Bool.and_eq_true, Params.holder_isSome_iff, Bool.or_eq_true, Bool.not_eq_true']

/-! ## The arming pulse -/

/-- Behind the change of roles no frame event applies a set. -/
theorem Params.releases_rotate {p : Params} (h : p.RolesSound) : p.rotate.releases = false := by
  have hnone : p.rotate.holder .staged = none := by
    cases hst : p.holder .staged with
    | none => rw [Params.rotate_of_none hst, hst]
    | some st => exact (Params.holder_rotate h hst).2
  unfold Params.releases
  rw [hnone]
  rfl

/-- The reader at its start point with the arming pulse as its first reference (R8, R9, R26). -/
def Reader.armedStart (rd : Reader) : Reader :=
  { rd.startPoint with monitor := rd.startPoint.monitor.refer 0 rd.clockLost }

theorem Reader.monitor_startPoint (rd : Reader) :
    rd.startPoint.monitor = Monitor.start (rd.params.rotate.setOf .active).pn rd.pendingStart := by
  unfold Reader.startPoint Reader.startHum
  rfl

theorem Reader.monitor_armedStart (rd : Reader) :
    rd.armedStart.monitor =
      { state := .absent, smoothed := (rd.params.rotate.setOf .active).pn, frameCount := rd.pendingStart
        reference := if rd.clockLost then .void 0 else .valid 0
        rejected := [], lastEvent := 0, holdoverTicks := 0, glitches := 0 } := by
  unfold Reader.armedStart
  rw [Reader.monitor_startPoint]
  rfl

theorem Reader.state_armedStart (rd : Reader) : rd.armedStart.state = .running := rfl
theorem Reader.entered_armedStart (rd : Reader) : rd.armedStart.entered = 0 := rfl
theorem Reader.laneMode_armedStart (rd : Reader) : rd.armedStart.laneMode = rd.laneMode := rfl
theorem Reader.params_armedStart (rd : Reader) : rd.armedStart.params = rd.params.rotate := rfl
theorem Reader.exclusions_armedStart (rd : Reader) : rd.armedStart.exclusions = rd.exclusions := rfl

/-- What the hum canceller and the schedule leave alike in two readers. -/
structure Reader.AlikeAtStart (a b : Reader) : Prop where
  state : a.state = b.state
  entered : a.entered = b.entered
  laneMode : a.laneMode = b.laneMode
  params : a.params = b.params
  monitor : a.monitor = b.monitor
  exclusions : a.exclusions = b.exclusions

theorem Reader.fields_humCounted (rd : Reader) : rd.humCounted.scheduled.still.AlikeAtStart rd := by
  have hbeside := rd.besideHum_humCounted
  exact ⟨(congrArg Reader.state hbeside :), (congrArg Reader.entered hbeside :), (congrArg Reader.laneMode hbeside :),
    (congrArg Reader.params hbeside :), rd.monitor_humCounted, (congrArg Reader.exclusions hbeside :)⟩

theorem armingPulse_yields (r : ReaderId) (s : State) :
    ((armingPulse r s).rd r).still = ((s.rd r).armedStart.atFrame .arming).still := by
  have hstart : ((startPoint r s).rd r).still = (s.rd r).startPoint.still := by
    have hcalm := (startPoint_ends r s).calm r
    rw [State.rd_onReader_self] at hcalm
    exact still_of_calm hcalm
  have hrefer : Still fun rd : Reader => { rd with monitor := rd.monitor.refer 0 rd.clockLost } := still_of_commutes fun _ => rfl
  have hyields := (yields_onReader (startPoint r s) r (fun rd => { rd with monitor := rd.monitor.refer 0 rd.clockLost }) rfl).trans
    (still_atFrame .arming) (frameEvent_yields r .arming 0 _)
  exact hyields.still.trans ((hrefer.comp (still_atFrame .arming)).congr hstart)

/-- Settles O37: the start point applies the STAGED set, so that the frame event behind it applies none. -/
theorem armingPulseStartsReader : Obligations.ArmingPulseStartsReader := by
  unfold Obligations.ArmingPulseStartsReader
  refine fun r s => ⟨fun hstate => ?stopped, fun hstate hroles => ?armed⟩
  case stopped =>
    refine completes_of_arbitrate ?_
    change Host.Outcome.next (realPulse r s).arbitrate = _
    unfold realPulse
    rw [hstate]
  case armed =>
    have hpulse : realPulse r s = armingPulse r s := by
      unfold realPulse
      rw [hstate]
    refine ⟨(armingPulse r s).arbitrate, congrArg (fun u : State => Host.Outcome.next u.arbitrate) hpulse, ?_⟩
    have hends := (State.arbitrate_settles (armingPulse r s)).1
    obtain ⟨x, hx⟩ : ∃ x, x = (s.rd r).armedStart := ⟨_, rfl⟩
    have hkept : x.appliedAtFrame = x := Reader.appliedAtFrame_of_withheld (hx ▸ Params.releases_rotate hroles)
    have hstill : ((armingPulse r s).arbitrate.rd r).still = x.humCounted.scheduled.still := by
      refine (still_of_calm (hends.calm r)).trans ((armingPulse_yields r s).trans ?_)
      rw [← hx]
      exact congrArg (fun y : Reader => y.humCounted.scheduled.still) hkept
    have hfields : x.humCounted.scheduled.still.AlikeAtStart (s.rd r).armedStart :=
      hx.subst (motive := x.humCounted.scheduled.still.AlikeAtStart) x.fields_humCounted
    refine ⟨?state, ?entered, ?mode, ?params, ?monitor, ?exclusions, ?other⟩
    case state => exact (congrArg Reader.state hstill).trans (hfields.state.trans (s.rd r).state_armedStart)
    case entered => exact (congrArg Reader.entered hstill).trans (hfields.entered.trans (s.rd r).entered_armedStart)
    case mode => exact (congrArg Reader.laneMode hstill).trans (hfields.laneMode.trans (s.rd r).laneMode_armedStart)
    case params => exact (congrArg Reader.params hstill).trans (hfields.params.trans (s.rd r).params_armedStart)
    case monitor => exact (congrArg Reader.monitor hstill).trans (hfields.monitor.trans (s.rd r).monitor_armedStart)
    case exclusions => exact (congrArg Reader.exclusions hstill).trans (hfields.exclusions.trans (s.rd r).exclusions_armedStart)
    case other => exact (hends.calm _).trans (armingPulse_within r s).other

end Sys2Proof.Machine
end

section
/-! The apply at a frame event beside the same frame event with the set withheld (R37, R123, R132, R133, R150, R152). -/

namespace Sys2Proof.Machine

/-! ## The places that the monitor's reports take -/

/-- From s to t at most n reports join the queue, and no place is granted or given up. -/
def Adds (n : Nat) (s t : State) : Prop :=
  t.queue.records.length ≤ s.queue.records.length + n ∧ t.queue.placeHeld = s.queue.placeHeld

theorem Adds.trans {m n : Nat} {s t u : State} (a : Adds m s t) (b : Adds n t u) : Adds (m + n) s u := by
  obtain ⟨ha, ha'⟩ := a
  obtain ⟨hb, hb'⟩ := b
  exact ⟨by omega, hb'.trans ha'⟩

theorem Adds.onReader {n : Nat} {s t : State} (h : Adds n s t) (r : ReaderId) (f : Reader → Reader) : Adds n s (t.onReader r f) := by
  unfold Adds
  rw [State.onReader_queue]
  exact h

theorem Adds.offer {n : Nat} {s t : State} (h : Adds n s t) (r : ReaderId) (b : ReportBody) : Adds (n + 1) s (t.offer r b) := by
  obtain ⟨hlength, hheld⟩ := h
  refine ⟨?_, (ends_offer t r b).placeHeld.trans hheld⟩
  have hoffer : (t.offer r b).queue.records.length ≤ t.queue.records.length + 1 := by
    change (t.queue.offer _).records.length ≤ _
    unfold ReportQueue.offer
    split
    · simp
    · exact Nat.le_succ _
  omega

theorem Adds.fires {n : Nat} {s t : State} (h : Adds n s t) (r : ReaderId) (c : BitVec 16) : Adds (n + 1) s (t.fireWatch r c) :=
  (h.offer r _).onReader r _

theorem Adds.mono {m n : Nat} {s t : State} (h : Adds m s t) (hmn : m ≤ n) : Adds n s t := ⟨by have := h.1; omega, h.2⟩

theorem Adds.watches {n : Nat} {s t : State} (h : Adds n s t) : Adds (n + 2) s t.evaluateWatches := by
  have hwatch : ∀ (r : ReaderId) (u : State), Adds (n + 1) s u → Adds (n + 2) s (u.evaluateWatch r) := by
    intro r u hu
    unfold State.evaluateWatch
    split
    · exact hu.fires r _
    · exact hu.mono (Nat.le_succ _)
  have hboth : ∀ (k : Nat) (r q : ReaderId) (c d : BitVec 16), Adds (n + 2) s (({ t with freeTick := k }.fireWatch r c).fireWatch q d) :=
    fun k r q c d => ((show Adds n s { t with freeTick := k } from h).fires r c).fires q d
  unfold State.evaluateWatches
  dsimp only
  split
  · split
    · exact hboth _ _ _ _ _
    · exact hboth _ _ _ _ _
  · split
    · exact hwatch _ _ (h.fires _ _)
    · split
      · exact hwatch _ _ (h.fires _ _)
      · exact h.mono (Nat.le_add_right _ _)

theorem Adds.offerHums {n : Nat} {s t : State} (h : Adds n s t) (r : ReaderId) (cause : HumsCause) (index : Nat) (old : Reader) :
    Adds (n + 1) s (t.offerHums r cause index old) := by
  unfold State.offerHums
  split
  · exact h.mono (Nat.le_succ _)
  · exact h.offer r _

theorem Adds.recompute {n : Nat} {s t : State} (h : Adds n s t) (r : ReaderId) (index : Nat) :
    Adds (n + 3) s (recomputeIncrements r index t) :=
  ((h.onReader r _).offerHums r _ _ _).watches

theorem Adds.refl (s : State) : Adds 0 s s := ⟨le_rfl, rfl⟩

theorem monitorPulse_adds (r : ReaderId) (s : State) : Adds 6 s (monitorPulse r s) := by
  unfold monitorPulse
  dsimp only
  generalize (s.rd r).monitor.pulse (s.rd r).active (s.rd r).index (s.rd r).clockLost = out
  have hmonitor : Adds 0 s (s.onReader r fun x => { x with monitor := out.monitor }) := (Adds.refl s).onReader r _
  have hreported : Adds 3 s (match out.report with
      | some cause => (s.onReader r fun x => { x with monitor := out.monitor }).offerFrms r cause (s.rd r).index
      | none => s.onReader r fun x => { x with monitor := out.monitor }).evaluateWatches := by
    refine Adds.watches (n := 1) ?_
    split
    · exact hmonitor.offer r _
    · exact hmonitor.mono (Nat.le_succ _)
  split
  · exact hreported.recompute r _
  · exact hreported.mono (by decide)

theorem monitorTick_adds (r : ReaderId) (s : State) : Adds 6 s (monitorTick r s) := by
  unfold monitorTick
  dsimp only
  split
  · exact (((((Adds.refl s).onReader r _).onReader r _).offer r _).watches).recompute r _
  · exact (((Adds.refl s).onReader r _).watches).mono (by decide)

theorem enterHoldover_adds (r : ReaderId) (s : State) : Adds 1 s (enterHoldover r s) := ((Adds.refl s).onReader r _).offer r _

/-- A command's frame event behind the monitor's own work. -/
theorem exec_frame_behind {r : ReaderId} {c : Instr} {s : State} (h : BringsFrame r (s.rd r) c) :
    ∃ w, Yields r s w ((s.rd r).measured (frameOutcome c (s.rd r))) ∧ Adds 7 s w ∧
      exec c s = .next (frameEvent r (frameKind c) (s.rd r).index w).arbitrate := by
  cases h with
  | pulse h =>
    refine ⟨monitorPulse r s, monitorPulse_yields r s, (monitorPulse_adds r s).mono (by decide), ?_⟩
    have hcounted : realPulse r s = countedPulse r s := by
      unfold realPulse
      rcases h with h | h <;> rw [h]
    exact congrArg (fun u : State => Host.Outcome.next u.arbitrate) hcounted
  | tick h =>
    refine ⟨monitorTick r s, ?_, (monitorTick_adds r s).mono (by decide), ?_⟩
    · have hyields := monitorTick_yields r s
      rwa [Reader.ticked_eq] at hyields
    · change Host.Outcome.next (if (s.rd r).tickDue then virtualTick r s else s).arbitrate = _
      rw [if_pos h]
      rfl
  | holdover h =>
    refine ⟨monitorTick r (enterHoldover r s), ?_, (enterHoldover_adds r s).trans (monitorTick_adds r _), ?_⟩
    · have henter : Yields r s (enterHoldover r s) { s.rd r with monitor := (s.rd r).monitor.enterHoldover } :=
        (yields_onReader s r (fun x => { x with monitor := x.monitor.enterHoldover }) rfl).offer _
      have hyields := henter.trans still_ticked (monitorTick_yields r _)
      rw [Reader.ticked_eq] at hyields
      exact hyields
    · change Host.Outcome.next (if (s.rd r).holdoverDue then holdoverEntry r s else s).arbitrate = _
      have hindex : ((enterHoldover r s).rd r).index = (s.rd r).index := by
        unfold enterHoldover State.offerFrms
        dsimp only
        rw [State.rd_offer, State.rd_onReader_self]
        rfl
      rw [if_pos h, holdoverEntry, virtualTick, hindex]
      rfl
  | free h =>
    refine ⟨monitorTick r s, ?_, (monitorTick_adds r s).mono (by decide), ?_⟩
    · have hyields := monitorTick_yields r s
      rwa [Reader.ticked_eq] at hyields
    · change Host.Outcome.next (if (s.rd r).freeDue then virtualTick r s else s).arbitrate = _
      rw [if_pos h]
      rfl

/-! ## The APLD report -/

theorem applySet_grows (r : ReaderId) (cause : ApldCause) (index : Nat) (s : State) :
    (rotateSlots r cause index s).queue.bodies <+: (applySet r cause index s).queue.bodies := by
  have hclamp := (Works.refl r (rotateSlots r cause index s)).watches.onReader
    (f := fun x => { x with monitor := x.monitor.clampS x.active }) still_clamp rfl
  have hhum := ((hclamp.onReader (f := fun x => x.applyHum (s.rd r).active) (still_applyHum _) rfl).offerHums .apply index
    ((clampSmoothed r (rotateSlots r cause index s).evaluateWatches).rd r)).watches
  have hdetectors := hhum.work (applyToDetectors_works r (s.rd r).active _)
  have hhiss := hdetectors.onReader (f := fun x => x.onLanes fun ln => { ln with hiss := ln.hiss.apply (s.rd r).active x.active })
    (still_applyHiss _) rfl
  exact (hhiss.onReader (f := fun x => { x with appliedSince := true }) (still_appliedSince true) rfl).watches.grows

/-- The reports of an apply stand first among those of its frame event. -/
theorem frameEvent_grows {r : ReaderId} {ev : FrameEvent} {index : Nat} {s : State}
    (h : ((s.rd r).started && (s.rd r).params.releases) = true) :
    (rotateSlots r ev.cause index s).queue.bodies <+: (frameEvent r ev index s).queue.bodies := by
  have happly : (rotateSlots r ev.cause index s).queue.bodies <+: (applyAtFrame r ev.cause index s).queue.bodies := by
    unfold applyAtFrame
    rw [if_pos h]
    exact applySet_grows r ev.cause index s
  have hhum := happly.trans (humFrameEvent_yields r index (applyAtFrame r ev.cause index s)).grows
  cases ev with
  | tick => exact hhum
  | arming => exact hhum.trans (scheduleAtPulse_yields r _).grows
  | pulse => exact (hhum.trans (scheduleAtPulse_yields r _).grows).trans (expireExclusions_yields r _).grows

theorem bodies_rotateSlots {r : ReaderId} {cause : ApldCause} {index : Nat} {s : State} (h : s.queue.occupied < 64) :
    (rotateSlots r cause index s).queue.bodies = s.queue.bodies ++
      [(r, .apld cause ((s.rd r).params.hold && (s.rd r).params.syncPending) (s.rd r).params.rotate.activeSlot
        (s.rd r).monitor.frameCount index)] := by
  unfold rotateSlots
  dsimp only
  rw [State.bodies_offer, State.onReader_queue, State.kept_congr (State.onReader_queue _ _ _), State.kept, if_pos h,
    State.rd_onReader_self]

theorem apld_reported {r : ReaderId} {c : Instr} {s t : State} (h : BringsFrame r (s.rd r) c)
    (hreleases : (s.rd r).params.releases = true) (hheld : s.queue.placeHeld = false) (hplaces : s.queue.records.length + 8 ≤ 64)
    (ht : exec c s = .next t) :
    (r, ReportBody.apld (frameKind c).cause ((s.rd r).params.hold && (s.rd r).params.syncPending)
      (s.rd r).params.rotate.activeSlot (frameOutcome c (s.rd r)).monitor.frameCount (s.rd r).index) ∈
        t.queue.bodies.drop s.queue.bodies.length := by
  obtain ⟨w, hyields, ⟨hlength, hheld'⟩, hexec⟩ := exec_frame_behind h
  obtain rfl : (frameEvent r (frameKind c) (s.rd r).index w).arbitrate = t := Host.Outcome.next.inj (hexec.symm.trans ht)
  have hbeside := (s.rd r).besideHum_measured (frameOutcome c (s.rd r))
  have hparams : (w.rd r).params = (s.rd r).params :=
    (congrArg Reader.params hyields.still).trans (Reader.params_of_besideHum hbeside :)
  have hmonitor : (w.rd r).monitor = (frameOutcome c (s.rd r)).monitor :=
    (congrArg Reader.monitor hyields.still).trans (Reader.monitor_measured _ _)
  have hstarted : (w.rd r).started = true := by
    have hstate : (w.rd r).state = (s.rd r).state :=
      (congrArg Reader.state hyields.still).trans (congrArg Reader.state hbeside :)
    unfold Reader.started
    rw [hstate]
    exact h.started
  have hoccupied : w.queue.occupied < 64 := by
    unfold ReportQueue.occupied
    rw [hheld', hheld]
    change w.queue.records.length + 0 < 64
    omega
  obtain ⟨before, hbefore⟩ := hyields.grows
  have hgrows := (frameEvent_grows (ev := frameKind c) (index := (s.rd r).index)
    (by rw [hstarted, hparams, hreleases]; rfl)).trans (Works.refl r _).arbitrate.grows
  obtain ⟨behind, hbehind⟩ := hgrows
  rw [← hbehind, bodies_rotateSlots hoccupied, ← hbefore, List.append_assoc, List.append_assoc, List.drop_left, hparams, hmonitor]
  simp

/-! ## The same frame event with the set withheld -/

/-- The reader with its STAGED set withheld (R147). -/
def Reader.withheld (rd : Reader) : Reader := { rd with params := { rd.params with hold := true, syncPending := false } }

theorem Reader.releases_withheld (rd : Reader) : rd.withheld.params.releases = false := Bool.and_false _

theorem Reader.measured_withheld (rd : Reader) (out : Measured) : rd.withheld.measured out = (rd.measured out).withheld := by
  unfold Reader.measured
  split <;> rfl

theorem frameOutcome_withheld (c : Instr) (rd : Reader) : frameOutcome c rd.withheld = frameOutcome c rd := by
  unfold frameOutcome
  split <;> rfl

theorem BringsFrame.withheld {r : ReaderId} {rd : Reader} {c : Instr} (h : BringsFrame r rd c) : BringsFrame r rd.withheld c := by
  cases h with
  | pulse h => exact .pulse h
  | tick h => exact .tick h
  | holdover h => exact .holdover h
  | free h => exact .free h

/-- The reader behind a frame event that applies no set, beside the lists and the table's work. -/
theorem exec_frame_withheld {r : ReaderId} {c : Instr} {s : State} (h : BringsFrame r (s.rd r) c) :
    ∃ u, exec c (s.onReader r Reader.withheld) = .next u ∧
      (u.rd r).still.besideLists =
        ((s.rd r).measured (frameOutcome c (s.rd r))).withheld.humCounted.still.besideLists := by
  have hreader : (s.onReader r Reader.withheld).rd r = (s.rd r).withheld := State.rd_onReader_self _ _ _
  obtain ⟨u, hu, hyields, _⟩ := exec_frame (s := s.onReader r Reader.withheld) (hreader ▸ h.withheld)
  refine ⟨u, hu, (besideLists_frame hyields).trans ?_⟩
  rw [hreader, frameOutcome_withheld, Reader.measured_withheld]
  change (Reader.appliedAtFrame _).humCounted.still.besideLists = _
  rw [Reader.appliedAtFrame_of_withheld (Reader.releases_withheld _)]

/-- The reader behind a frame event that applies a set, beside the lists and the table's work. -/
theorem exec_frame_applied {r : ReaderId} {c : Instr} {s : State} (h : BringsFrame r (s.rd r) c)
    (hreleases : (s.rd r).params.releases = true) :
    ∃ t, exec c s = .next t ∧
      (t.rd r).still.besideLists = ((s.rd r).measured (frameOutcome c (s.rd r))).applied.humCounted.still.besideLists := by
  obtain ⟨t, ht, hyields, _⟩ := exec_frame h
  refine ⟨t, ht, (besideLists_frame hyields).trans ?_⟩
  have hbeside := (s.rd r).besideHum_measured (frameOutcome c (s.rd r))
  have hstarted : ((s.rd r).measured (frameOutcome c (s.rd r))).started = true :=
    (Reader.started_of_besideHum hbeside).trans h.started
  change (Reader.appliedAtFrame _).humCounted.still.besideLists = _
  unfold Reader.appliedAtFrame
  rw [hstarted, Reader.params_of_besideHum hbeside, hreleases]
  rfl

/-! ## The hum canceller at an apply -/

/-- The period count behind a frame event's judgement (R117). -/
theorem Reader.periodCounter_humCounted (rd : Reader) :
    rd.humCounted.hum.periodCounter =
      if rd.state = .running then
        if rd.active.monitorPeriod ≤ rd.hum.periodCounter + 1 then 0 else rd.hum.periodCounter + 1
      else rd.hum.periodCounter := by
  by_cases hstate : rd.state = .running
  · rw [if_pos hstate]
    exact (rd.humCounted_spec hstate).2.1
  · have hcounted : rd.humCounted = rd := if_neg (by simpa using hstate)
    rw [if_neg hstate, hcounted]

/-- A slot with its start values stands through a judgement (R116). -/
theorem HumLaneSlot.judge_cleared (status : HumStatus) : (HumLaneSlot.cleared status).judge = HumLaneSlot.cleared status := by
  simp [HumLaneSlot.judge, HumLaneSlot.cleared, HumLaneSlot.amplitude]

theorem HumLaneSlot.settle_cleared {status : HumStatus} (h : status ≠ .locked) :
    (HumLaneSlot.cleared status).settle = HumLaneSlot.cleared status := by
  cases status with
  | locked => exact absurd rfl h
  | seeking | off | outOfBand | parked => rfl

theorem startStatus_ne_locked (c : HumConfig) (delta : BitVec 32) : startStatus c delta ≠ .locked := by
  unfold startStatus
  split
  · split <;> nofun
  · nofun

/-- A slot with start values stands through the work of a frame event. -/
theorem Reader.hum_humCounted_of_cleared {rd : Reader} {l : Lane} {i : Fin 12} {status : HumStatus}
    (h : (rd.lane l).hum[i] = HumLaneSlot.cleared status) (hstatus : status ≠ .locked) :
    (rd.humCounted.lane l).hum[i] = HumLaneSlot.cleared status := by
  by_cases hstate : rd.state = .running
  · obtain ⟨_, _, _, hlanes⟩ := rd.humCounted_spec hstate
    have hjudged : (rd.lane l).judgeHum.hum[i] = HumLaneSlot.cleared status := by
      rw [LaneState.hum_judgeHum, h, HumLaneSlot.judge_cleared, ite_self]
    rw [(hlanes l).2 i, hjudged, HumLaneSlot.settle_cleared hstatus, ite_self]
  · have hcounted : rd.humCounted = rd := if_neg (by simpa using hstate)
    rw [hcounted, h]

/-- A slot's work at a frame event reads the slot, its lane's adapted mark and the period. -/
theorem Reader.hum_humCounted_congr {a b : Reader} {l : Lane} {i : Fin 12} (hstate : a.state = b.state)
    (hslot : (a.lane l).hum[i] = (b.lane l).hum[i]) (hadapted : (a.lane l).adapted = (b.lane l).adapted)
    (hperiod : a.state = .running → a.active.monitorPeriod = b.active.monitorPeriod ∧ a.hum.periodCounter = b.hum.periodCounter) :
    (a.humCounted.lane l).hum[i] = (b.humCounted.lane l).hum[i] := by
  by_cases hrunning : a.state = .running
  · obtain ⟨hmonitor, hcounter⟩ := hperiod hrunning
    obtain ⟨_, _, _, ha⟩ := a.humCounted_spec hrunning
    obtain ⟨_, _, _, hb⟩ := b.humCounted_spec (hstate.symm.trans hrunning)
    have hjudged : (a.lane l).judgeHum.hum[i] = (b.lane l).judgeHum.hum[i] := by
      rw [LaneState.hum_judgeHum, LaneState.hum_judgeHum, hslot, hadapted]
    rw [(ha l).2 i, (hb l).2 i, hjudged, hmonitor, hcounter]
  · have hcounted : ∀ x : Reader, x.state ≠ .running → x.humCounted = x := fun x hx => if_neg (by simpa using hx)
    rw [hcounted a hrunning, hcounted b (hstate ▸ hrunning), hslot]

theorem Reader.hum_applied (rd : Reader) (l : Lane) (i : Fin 12) :
    (rd.applied.lane l).hum[i] =
      (rd.lane l).hum[i].apply (configChanged rd.active rd.applied.active i) rd.applied.active.hum[i] rd.applied.hum.slots[i].delta := by
  cases l
  · exact Vector.getElem_ofFn i.isLt
  · exact Vector.getElem_ofFn i.isLt

theorem Reader.active_applied (rd : Reader) : rd.applied.active = rd.params.rotate.setOf .active := rfl

theorem Reader.monitor_applied (rd : Reader) : rd.applied.monitor = rd.monitor.clampS rd.applied.active := by
  rw [Reader.active_applied]
  rfl

theorem Reader.delta_applied (rd : Reader) (i : Fin 12) :
    rd.applied.hum.slots[i].delta = slotIncrement rd.applied.active.hum[i] rd.applied.active.mains
      rd.applied.active.nominalRate rd.applied.monitor.smoothed :=
  Hum.delta_recompute _ _ _ _

theorem Reader.periodCounter_applied (rd : Reader) :
    rd.applied.hum.periodCounter =
      if rd.active.monitorPeriod = rd.applied.active.monitorPeriod then rd.hum.periodCounter else 0 := by
  rw [Reader.active_applied]
  simp only [Reader.applied, Reader.onLanes, Reader.applyHum, Hum.recompute, Reader.active]
  rfl

theorem Reader.state_applied (rd : Reader) : rd.applied.state = rd.state :=
  (congrArg Reader.state rd.besideFrame_applied :)

theorem Reader.adapted_applied (rd : Reader) (l : Lane) : (rd.applied.lane l).adapted = (rd.lane l).adapted := by
  cases l <;> simp only [Reader.applied, Reader.onLanes, Reader.applyHum, Reader.lane]

theorem Reader.hiss_applied (rd : Reader) (l : Lane) :
    (rd.applied.lane l).hiss = (rd.lane l).hiss.apply rd.active rd.applied.active := by
  rw [Reader.active_applied]
  cases l <;> rfl

theorem Reader.hiss_humCounted (rd : Reader) (l : Lane) : (rd.humCounted.lane l).hiss = (rd.lane l).hiss := by
  have hbeside := rd.besideHum_humCounted
  cases l
  · exact (congrArg (fun x => x.lane0.hiss) hbeside :)
  · exact (congrArg (fun x => x.lane1.hiss) hbeside :)

theorem Reader.hiss_of_besideLists {x y : Reader} (h : x.still.besideLists = y.still.besideLists) (l : Lane) :
    (x.lane l).hiss = (y.lane l).hiss := by
  cases l
  · exact congrArg (fun rd => rd.lane0.hiss) h
  · exact congrArg (fun rd => rd.lane1.hiss) h

theorem configChanged_iff {old new : ParamSet} {i : Fin 12} :
    configChanged old new i = true ↔ old.hum[i] ≠ new.hum[i] ∨
      (new.hum[i].source = .mains ∧ (old.mains ≠ new.mains ∨ old.nominalRate ≠ new.nominalRate)) := by
  simp [configChanged]

theorem HumLaneSlot.bandTest_of_rest {x : HumLaneSlot} (h : x.status.active = false) (delta : BitVec 32) : x.bandTest delta = x := by
  rw [HumLaneSlot.bandTest, h]
  rfl

/-- An active slot that the second of two band tests finds out of band keeps nothing, whatever the first one found. -/
theorem HumLaneSlot.bandTest_bandTest {x : HumLaneSlot} {delta delta' : BitVec 32} (h : x.status.active = true)
    (hband : 2 ^ 31 ≤ delta'.toNat) : (x.bandTest delta).bandTest delta' = HumLaneSlot.cleared .outOfBand := by
  have hout : outOfBand delta' = true := decide_eq_true hband
  cases hfirst : outOfBand delta with
  | true =>
    have hcleared : x.bandTest delta = HumLaneSlot.cleared .outOfBand := by simp [HumLaneSlot.bandTest, h, hfirst]
    rw [hcleared]
    rfl
  | false => simp [HumLaneSlot.bandTest, h, hfirst, hout]

theorem HumLaneSlot.bandTest_of_outOfBand {x : HumLaneSlot} {delta : BitVec 32} (h : x.status.active = true)
    (hband : 2 ^ 31 ≤ delta.toNat) : x.bandTest delta = HumLaneSlot.cleared .outOfBand := by
  have hout : outOfBand delta = true := decide_eq_true hband
  rw [HumLaneSlot.bandTest, h, hout]
  rfl

/-- A hum slot behind an apply that leaves its configuration, where it was active and stays in band. -/
theorem HumLaneSlot.apply_of_kept {x : HumLaneSlot} {c : HumConfig} {delta : BitVec 32} (h : delta.toNat < 2 ^ 31) :
    x.apply false c delta = x := HumLaneSlot.bandTest_of_inBand h

/-! ## A hum slot behind an apply -/

section
variable {rd : Reader} {out : Measured} {l : Lane} {i : Fin 12}

theorem Reader.hum_applied_measured : (((rd.measured out).applied.lane l).hum[i] : HumLaneSlot) =
    (if out.recompute then (rd.lane l).hum[i].bandTest (rd.measured out).hum.slots[i].delta else (rd.lane l).hum[i]).apply
      (configChanged (rd.measured out).active (rd.measured out).applied.active i) (rd.measured out).applied.active.hum[i]
      (rd.measured out).applied.hum.slots[i].delta := by
  rw [Reader.hum_applied, Reader.hum_measured]

/-- A slot whose configuration changed is reset (R123). -/
theorem Reader.hum_applied_of_changed
    (h : configChanged (rd.measured out).active (rd.measured out).applied.active i = true) :
    ((rd.measured out).applied.humCounted.lane l).hum[i] =
      .cleared (startStatus (rd.measured out).applied.active.hum[i] (rd.measured out).applied.hum.slots[i].delta) := by
  refine Reader.hum_humCounted_of_cleared ?_ (startStatus_ne_locked _ _)
  rw [Reader.hum_applied_measured, h]
  rfl

section
variable (hsame : configChanged (rd.measured out).active (rd.measured out).applied.active i = false)
include hsame

/-- A slot at rest stands. -/
theorem Reader.hum_applied_of_rest (h : (rd.lane l).hum[i].status.active = false) :
    ((rd.measured out).applied.humCounted.lane l).hum[i] = (rd.lane l).hum[i] := by
  have hkept : ((rd.measured out).applied.lane l).hum[i] = (rd.lane l).hum[i] := by
    rw [Reader.hum_applied_measured, HumLaneSlot.bandTest_of_rest h, ite_self, hsame]
    exact HumLaneSlot.bandTest_of_rest h _
  rw [Reader.hum_humCounted_of_rest l i (by rw [hkept]; exact h), hkept]

/-- An active slot whose new increment is out of band keeps nothing. -/
theorem Reader.hum_applied_of_outOfBand (h : (rd.lane l).hum[i].status.active = true)
    (hband : 2 ^ 31 ≤ ((rd.measured out).applied.hum.slots[i].delta).toNat) :
    ((rd.measured out).applied.humCounted.lane l).hum[i] = .cleared .outOfBand := by
  refine Reader.hum_humCounted_of_cleared ?_ nofun
  rw [Reader.hum_applied_measured, hsame]
  change HumLaneSlot.bandTest _ _ = _
  split
  · exact HumLaneSlot.bandTest_bandTest h hband
  · exact HumLaneSlot.bandTest_of_outOfBand h hband

/-- A slot in band goes on as with the set withheld, where the period goes on too. -/
theorem Reader.hum_applied_of_inside (hband : ((rd.measured out).applied.hum.slots[i].delta).toNat < 2 ^ 31)
    (hperiod : (rd.measured out).state = .running →
      (rd.measured out).active.monitorPeriod = (rd.measured out).applied.active.monitorPeriod) :
    ((rd.measured out).applied.humCounted.lane l).hum[i] = ((rd.measured out).withheld.humCounted.lane l).hum[i] := by
  have hslot : ((rd.measured out).applied.lane l).hum[i] = ((rd.measured out).lane l).hum[i] := by
    rw [Reader.hum_applied, hsame, HumLaneSlot.apply_of_kept hband]
  refine Reader.hum_humCounted_congr ((Reader.state_applied _).trans rfl) (hslot.trans (by cases l <;> rfl))
    ((Reader.adapted_applied _ l).trans (by cases l <;> rfl)) fun hrunning => ?_
  rw [Reader.state_applied] at hrunning
  refine ⟨(hperiod hrunning).symm, ?_⟩
  rw [Reader.periodCounter_applied, if_pos (hperiod hrunning)]
  rfl

end

end

/-! ## The reader behind a frame event that applies a set -/

/-- From s, t behind a frame event that applies a set, u behind the same one with the set withheld, and q the reader as the monitor
and the increments have been brought to the event. -/
structure AppliesSet (r : ReaderId) (c : Instr) (s t u : State) (q : Reader) : Prop where
  measured : q = (s.rd r).measured (frameOutcome c (s.rd r))
  applied : (t.rd r).still.besideLists = q.applied.humCounted.still.besideLists
  withheld : (u.rd r).still.besideLists = q.withheld.humCounted.still.besideLists

namespace AppliesSet

variable {r : ReaderId} {c : Instr} {s t u : State} {q : Reader} (h : AppliesSet r c s t u q)
include h

theorem beside : q.besideHum = (s.rd r).besideHum := by
  rw [h.measured]
  exact (s.rd r).besideHum_measured _

theorem params : (t.rd r).params = (s.rd r).params.rotate :=
  (congrArg Reader.params h.applied).trans ((Reader.params_humCounted _).trans
    (congrArg Params.rotate (Reader.params_of_besideHum h.beside)))

theorem old : q.active = (s.rd r).active := congrArg (fun p : Params => p.setOf .active) (Reader.params_of_besideHum h.beside)

theorem new : (t.rd r).active = q.applied.active :=
  congrArg (fun p : Params => p.setOf .active) ((congrArg Reader.params h.applied).trans (Reader.params_humCounted _))

theorem state : q.state = (s.rd r).state := (congrArg Reader.state h.beside :)

theorem monitorBefore : (u.rd r).monitor = q.monitor := (congrArg Reader.monitor h.withheld).trans (Reader.monitor_humCounted _)

theorem clamped : q.applied.monitor = (u.rd r).monitor.clampS (t.rd r).active := by
  rw [Reader.monitor_applied, h.new, h.monitorBefore]

theorem monitor : (t.rd r).monitor = (u.rd r).monitor.clampS (t.rd r).active :=
  (congrArg Reader.monitor h.applied).trans ((Reader.monitor_humCounted _).trans h.clamped)

theorem delta (i : Fin 12) : q.applied.hum.slots[i].delta = slotIncrement (t.rd r).active.hum[i] (t.rd r).active.mains
    (t.rd r).active.nominalRate ((u.rd r).monitor.clampS (t.rd r).active).smoothed := by
  rw [Reader.delta_applied, ← h.new, h.clamped]

theorem slot (i : Fin 12) : (t.rd r).hum.slots[i] = { theta := (s.rd r).hum.slots[i].theta, delta := q.applied.hum.slots[i].delta } := by
  have hslots : (t.rd r).hum.slots = q.applied.hum.slots :=
    (congrArg Hum.slots (Reader.hum_of_besideLists h.applied)).trans (Reader.slots_humCounted _)
  have htheta : q.applied.hum.slots[i].theta = (s.rd r).hum.slots[i].theta :=
    (Hum.theta_recompute _ _ _ _).trans (by rw [h.measured, Reader.theta_measured])
  rw [hslots, ← htheta]

/-- The period counter goes on where the period stands. -/
theorem periodCounter_of_same (hsame : (s.rd r).active.monitorPeriod = (t.rd r).active.monitorPeriod) :
    (t.rd r).hum.periodCounter = (u.rd r).hum.periodCounter := by
  have hkept : q.applied.hum.periodCounter = q.hum.periodCounter := by
    rw [Reader.periodCounter_applied, if_pos (by rw [h.old, ← h.new, hsame])]
  refine (congrArg Hum.periodCounter (Reader.hum_of_besideLists h.applied)).trans
    (Eq.trans ?_ (congrArg Hum.periodCounter (Reader.hum_of_besideLists h.withheld)).symm)
  rw [Reader.periodCounter_humCounted, Reader.periodCounter_humCounted, hkept, ← h.new, ← hsame, ← h.old]
  rfl

/-- The period counter starts anew where the period changed. -/
theorem periodCounter_of_changed (hnot : (s.rd r).active.monitorPeriod ≠ (t.rd r).active.monitorPeriod) :
    (t.rd r).hum.periodCounter = if (s.rd r).state = .running ∧ 2 ≤ (t.rd r).active.monitorPeriod then 1 else 0 := by
  have hzero : q.applied.hum.periodCounter = 0 := by
    rw [Reader.periodCounter_applied, if_neg (by rw [h.old, ← h.new]; exact hnot)]
  refine (congrArg Hum.periodCounter (Reader.hum_of_besideLists h.applied)).trans ?_
  rw [Reader.periodCounter_humCounted, hzero, ← h.new, Reader.state_applied, h.state]
  by_cases hrunning : (s.rd r).state = .running
  · by_cases hperiod : 2 ≤ (t.rd r).active.monitorPeriod
    · rw [if_pos hrunning, if_neg (by omega), if_pos ⟨hrunning, hperiod⟩]
    · rw [if_pos hrunning, if_pos (by omega), if_neg fun h => hperiod h.2]
  · rw [if_neg hrunning, if_neg fun h => hrunning h.1]

theorem hum (l : Lane) (i : Fin 12) : ((t.rd r).lane l).hum[i] = (q.applied.humCounted.lane l).hum[i] :=
  congrArg (fun x : Vector HumLaneSlot 12 × Bool => x.1[i]) (Reader.humState_of_besideLists h.applied l)

theorem humWithheld (l : Lane) (i : Fin 12) : ((u.rd r).lane l).hum[i] = (q.withheld.humCounted.lane l).hum[i] :=
  congrArg (fun x : Vector HumLaneSlot 12 × Bool => x.1[i]) (Reader.humState_of_besideLists h.withheld l)

theorem hiss (l : Lane) : ((t.rd r).lane l).hiss = ((s.rd r).lane l).hiss.apply (s.rd r).active (t.rd r).active := by
  have hbefore : (q.lane l).hiss = ((s.rd r).lane l).hiss := by
    cases l
    · exact (congrArg (fun x => x.lane0.hiss) h.beside :)
    · exact (congrArg (fun x => x.lane1.hiss) h.beside :)
  rw [h.new, ← h.old, ← hbefore]
  exact (Reader.hiss_of_besideLists h.applied l).trans ((Reader.hiss_humCounted _ l).trans (Reader.hiss_applied q l))

end AppliesSet

/-- Settles O41: what an apply at a frame event leaves, told beside the same frame event with the set withheld. -/
theorem frameEventAppliesStagedSet : Obligations.FrameEventAppliesStagedSet := by
  unfold Obligations.FrameEventAppliesStagedSet
  intro r c s hroles hcommand
  have hbrings : BringsFrame r (s.rd r) c := by
    rcases hcommand with ⟨rfl, hstate⟩ | ⟨rfl, hdue⟩ | ⟨rfl, hdue⟩ | ⟨rfl, hdue⟩
    · exact .pulse hstate
    · exact .tick hdue
    · exact .holdover hdue
    · exact .free hdue
  obtain ⟨u, hu, hwithheld⟩ := exec_frame_withheld hbrings
  by_cases hreleases : (s.rd r).params.releases = true
  case neg =>
    have hparams := Reader.params_of_besideHum ((s.rd r).besideHum_measured (frameOutcome c (s.rd r)))
    obtain ⟨t, ht, hyields, _⟩ := exec_frame hbrings
    refine ⟨t, ht, u, hu, fun _ => ?_, fun happlied => absurd (Params.releases_iff.mpr happlied) hreleases⟩
    have hkept := Reader.appliedAtFrame_of_withheld
      (rd := (s.rd r).measured (frameOutcome c (s.rd r))) (hparams ▸ Bool.not_eq_true _ ▸ hreleases)
    have hframe : (t.rd r).params = _ := (congrArg Reader.params (besideLists_frame hyields)).trans (Reader.params_humCounted _)
    rw [hframe, hkept, hparams]
  case pos =>
    obtain ⟨t, ht, happlied⟩ := exec_frame_applied hbrings hreleases
    have h : AppliesSet r c s t u _ := ⟨rfl, happlied, hwithheld⟩
    refine ⟨t, ht, u, hu, ?_⟩
    intro rd p applied moved old new m S increment changed cleared cause
    refine ⟨fun hno => absurd (Params.releases_iff.mp hreleases) hno, fun _ => ?_⟩
    obtain ⟨st, hst⟩ := Option.isSome_iff_exists.mp (Params.holder_isSome_iff.mpr (Params.releases_iff.mp hreleases).1)
    have hflag : ∀ i, configChanged ((s.rd r).measured (frameOutcome c (s.rd r))).active
        ((s.rd r).measured (frameOutcome c (s.rd r))).applied.active i = true ↔ changed i := fun i => by
      rw [h.old, ← h.new]
      exact configChanged_iff
    have hsame : ∀ {i}, ¬ changed i → configChanged ((s.rd r).measured (frameOutcome c (s.rd r))).active
        ((s.rd r).measured (frameOutcome c (s.rd r))).applied.active i = false := fun hnot =>
      Bool.eq_false_iff.mpr (mt (hflag _).mp hnot)
    have hdelta : ∀ i, ((s.rd r).measured (frameOutcome c (s.rd r))).applied.hum.slots[i].delta = increment i := h.delta
    refine ⟨?hold, ?sync, ?slots, h.monitor, fun i => ?phase, h.periodCounter_of_same, h.periodCounter_of_changed, fun l i => ?lane,
      fun l => (h.hiss l).trans (if_congr beq_iff_eq rfl rfl), fun hheld hplaces => ?apld⟩
    case hold => exact (congrArg Params.hold h.params).trans (Params.hold_rotate _)
    case sync => exact (congrArg Params.syncPending h.params).trans (Params.syncPending_rotate hroles hst)
    case slots =>
      intro i
      have hmoved : ∀ role : Role, role.moved = moved role := fun role => by cases role <;> rfl
      refine (congrArg (fun x : Params => x.slot i) h.params).trans ((Params.slot_rotate hroles hst i).trans ?_)
      exact congrArg (fun role : Role => ({ role := role, set := (rd.params.slot i).set } : ParamSlot)) (hmoved _)
    case phase => exact (h.slot i).trans (congrArg (HumSlot.mk _) (hdelta i))
    case lane =>
      intro x active after
      have hafter : after = _ := h.hum l i
      refine ⟨fun hchanged => ?changed, fun hnot hrest => ?rest, fun hnot hactive hband => ?cleared,
        fun hnot hactive hband hstate => ?inside⟩
      case changed =>
        refine hafter.trans ((Reader.hum_applied_of_changed ((hflag i).mpr hchanged)).trans ?_)
        rw [hdelta, ← h.new]
        exact congrArg HumLaneSlot.cleared (if_congr Iff.rfl (if_congr decide_eq_true_iff rfl rfl) rfl)
      case rest => exact hafter.trans (Reader.hum_applied_of_rest (hsame hnot) (Bool.eq_false_iff.mpr (mt HumStatus.active_iff.mp hrest)))
      case cleared =>
        exact hafter.trans (Reader.hum_applied_of_outOfBand (hsame hnot) (HumStatus.active_iff.mpr hactive) (by rw [hdelta]; exact hband))
      case inside =>
        refine hafter.trans ((Reader.hum_applied_of_inside (hsame hnot) (by rw [hdelta]; exact hband) fun hrunning => ?_).trans
          (h.humWithheld l i).symm)
        rw [h.old, ← h.new]
        refine hstate.resolve_left fun hbypassed => ?_
        rw [h.state] at hrunning
        exact nomatch hrunning.symm.trans hbypassed
    case apld =>
      have hreport := apld_reported hbrings hreleases hheld hplaces ht
      refine ⟨st, ?_, ?_⟩
      · rw [congrArg (fun x : Params => (x.slot st).role) h.params, Params.slot_rotate hroles hst, Params.role_of_holder hst]
        rfl
      · have hslot : rd.params.rotate.activeSlot = st := by
          rw [Params.activeSlot, (Params.holder_rotate hroles hst).1]
          rfl
        have hcause : (frameKind c).cause = cause := by
          rcases hcommand with ⟨rfl, _⟩ | ⟨rfl, _⟩ | ⟨rfl, _⟩ | ⟨rfl, _⟩
          · exact (if_pos rfl).symm
          all_goals exact (if_neg nofun).symm
        have hcount : (frameOutcome c (s.rd r)).monitor.frameCount = m.frameCount :=
          congrArg Monitor.frameCount (h.monitorBefore.trans (Reader.monitor_measured _ _)).symm
        rw [← hcause, ← hslot, ← hcount]
        exact hreport

end Sys2Proof.Machine
end

section
/-! What every step keeps of a reader: the course of each event, and the frame for the invariants. -/

open Relation (ReflTransGen)

namespace Sys2Proof.Machine

/-! ## The course of an event -/

/-- A reader at an event: the reader on which the table's work begins, and the one that the event brings about beside it. -/
inductive EventCourse (rd : Reader) : Reader → Reader → Prop
  | stays : EventCourse rd rd rd
  | idle (x0 x1 : Sample) (hclock : rd.clockLost = false) : EventCourse rd rd (enterIdle x0 x1 rd)
  | ran (x0 x1 : Sample) (hstate : rd.state = .running) (hclock : rd.clockLost = false) : EventCourse rd rd (rd.ranOn x0 x1)
  | passed (x0 x1 : Sample) (hstate : rd.state = .bypassed) (hclock : rd.clockLost = false) : EventCourse rd rd (rd.passedOn x0 x1)
  | arming (hstate : rd.state = .armed) : EventCourse rd rd.armedStart (rd.armedStart.atFrame .arming)
  | pulse (hstarted : rd.started = true) : EventCourse rd rd (rd.pulsed.atFrame .pulse)
  | loseClock : EventCourse rd rd { rd with clockLost := true, output := none, monitor := rd.monitor.loseClock }
  | regainClock : EventCourse rd rd { rd with clockLost := false }
  | stuck : EventCourse rd rd (rd.onLanes (·.becomeStuck rd.active))
  | holdover (hdue : rd.holdoverDue = true) : EventCourse rd rd rd.heldOver
  | tick (hdue : rd.tickDue = true) : EventCourse rd rd (rd.ticked.atFrame .tick)
  | period : EventCourse rd rd rd.settleHum
  | hissBlock (l : Lane) (hdue : rd.hissBlockDue l = true) : EventCourse rd rd (completeHissBlock l rd)

/-- What an event leaves of its reader. -/
structure Runs (rd base beside rd' : Reader) : Prop where
  course : EventCourse rd base beside
  still : rd'.still = beside.still
  acts : Acts base rd'
  /-- A reader that is not started keeps what the table's work moves, unless the event starts it. -/
  rests : rd.started = true ∨ rd'.state = .running ∨ rd'.moving = rd.moving

theorem Yields.runs {r : ReaderId} {s t : State} {x : Reader} (h : Yields r s t x) (hcourse : EventCourse (s.rd r) (s.rd r) x)
    (hstarted : (s.rd r).started = true) : Runs (s.rd r) (s.rd r) x (t.rd r) :=
  ⟨hcourse, h.still, h.acts, .inl hstarted⟩

/-- An event that changes the reader by a function, beside what the watches do. -/
theorem Runs.of_calm {rd x rd' : Reader} (hcourse : EventCourse rd rd x) (hcalm : rd'.calm = x.calm)
    (hmoving : x.moving = rd.moving) : Runs rd rd x rd' :=
  have hsame : rd'.moving = rd.moving := (moving_of_calm hcalm).trans hmoving
  ⟨hcourse, still_of_calm hcalm, .single (.inr hsame), .inr (.inr hsame)⟩

theorem entryEvent_runs (r : ReaderId) (x0 x1 : Sample) (first : Lane) (s : State) :
    ∃ base x, Runs (s.rd r) base x ((entryEvent r x0 x1 first s).rd r) := by
  by_cases hlost : (s.rd r).clockLost = true
  · refine ⟨_, _, Runs.of_calm .stays ?_ rfl⟩
    rw [entryEvent, if_pos hlost]
  · have hclock : (s.rd r).clockLost = false := Bool.eq_false_iff.mpr hlost
    have hidle : (s.onReader r (enterIdle x0 x1)).rd r = enterIdle x0 x1 (s.rd r) := State.rd_onReader_self _ _ _
    have hstarted : (s.rd r).state = .running ∨ (s.rd r).state = .bypassed → (s.rd r).started = true := Reader.started_iff.mpr
    unfold entryEvent
    rw [if_neg hlost]
    cases hstate : (s.rd r).state with
    | stopped | armed => exact ⟨_, _, Runs.of_calm (.idle x0 x1 hclock) (congrArg Reader.calm hidle) rfl⟩
    | running => exact ⟨_, _, (entryRunning_yields r x0 x1 first s).runs (.ran x0 x1 hstate hclock) (hstarted (.inl hstate))⟩
    | bypassed => exact ⟨_, _, (entryBypassed_yields r x0 x1 s).runs (.passed x0 x1 hstate hclock) (hstarted (.inr hstate))⟩

theorem armingPulse_acts (r : ReaderId) (s : State) : Acts (s.rd r).armedStart ((armingPulse r s).rd r) := by
  have hstart : ((startPoint r s).rd r).moving = (s.rd r).startPoint.moving := by
    have hcalm := (startPoint_ends r s).calm r
    rw [State.rd_onReader_self] at hcalm
    exact moving_of_calm hcalm
  have hyields := (yields_onReader (startPoint r s) r (fun rd => { rd with monitor := rd.monitor.refer 0 rd.clockLost }) rfl).trans
    (still_atFrame .arming) (frameEvent_yields r .arming 0 _)
  exact ReflTransGen.head (.inr hstart) hyields.acts

theorem armingPulse_state (r : ReaderId) (s : State) : ((armingPulse r s).rd r).state = .running := by
  have hbeside := Reader.besideFrame_tick (s.rd r).armedStart
  exact (congrArg Reader.state (armingPulse_yields r s)).trans ((congrArg Reader.state hbeside :).trans (s.rd r).state_armedStart)

theorem realPulse_runs (r : ReaderId) (s : State) : ∃ base x, Runs (s.rd r) base x ((realPulse r s).rd r) := by
  have hstarted : (s.rd r).state = .running ∨ (s.rd r).state = .bypassed → (s.rd r).started = true := Reader.started_iff.mpr
  unfold realPulse
  cases hstate : (s.rd r).state with
  | stopped => exact ⟨_, _, Runs.of_calm .stays rfl rfl⟩
  | armed => exact ⟨_, _, .arming hstate, armingPulse_yields r s, armingPulse_acts r s, .inr (.inl (armingPulse_state r s))⟩
  | running => exact ⟨_, _, (countedPulse_yields r s).runs (.pulse (hstarted (.inl hstate))) (hstarted (.inl hstate))⟩
  | bypassed => exact ⟨_, _, (countedPulse_yields r s).runs (.pulse (hstarted (.inr hstate))) (hstarted (.inr hstate))⟩

theorem calm_offerLane_watches (s : State) (r : ReaderId) (cause : LaneCause) (l0 l1 : Bool) (index : Nat) :
    ((s.offerLane r cause l0 l1 index).evaluateWatches.rd r).calm = (s.rd r).calm :=
  ((offerLane_ends s r cause l0 l1 index).trans (State.evaluateWatches_settles _).1).calm r

theorem loseClock_runs (r : ReaderId) (s : State) : ∃ base x, Runs (s.rd r) base x ((loseClock r s).rd r) := by
  unfold loseClock
  split
  · exact ⟨_, _, Runs.of_calm .stays rfl rfl⟩
  · refine ⟨_, _, Runs.of_calm .loseClock ((calm_offerLane_watches _ r _ _ _ _).trans ?_) rfl⟩
    rw [State.rd_onReader_self]

theorem regainClock_runs (r : ReaderId) (s : State) : ∃ base x, Runs (s.rd r) base x ((regainClock r s).rd r) := by
  unfold regainClock
  split
  · refine ⟨_, _, Runs.of_calm .regainClock ((calm_offerLane_watches _ r _ _ _ _).trans ?_) rfl⟩
    rw [State.rd_onReader_self]
  · exact ⟨_, _, Runs.of_calm .stays rfl rfl⟩

theorem LaneState.detector_becomeStuck (ln : LaneState) (p : ParamSet) : (ln.becomeStuck p).detector = ln.detector := by
  unfold LaneState.becomeStuck
  split <;> rfl

theorem lanesBecomeStuck_runs (r : ReaderId) (s : State) : ∃ base x, Runs (s.rd r) base x ((lanesBecomeStuck r s).rd r) := by
  have hends := (offerStuckChanges_ends (s.onReader r fun x => x.onLanes (·.becomeStuck x.active)) r (s.rd r)
    (index48 ((s.rd r).entered - 1))).trans (State.evaluateWatches_settles _).1
  refine ⟨_, _, Runs.of_calm .stuck ((hends.calm r).trans ?_) ?_⟩
  · rw [State.rd_onReader_self]
  · simp only [Reader.moving, Reader.onLanes, LaneState.detector_becomeStuck]

/-- Every event runs its course. -/
theorem ReaderEvent.runs {r : ReaderId} {s t : State} (h : ReaderEvent r s t) : ∃ base x, Runs (s.rd r) base x (t.rd r) := by
  have hstarted : ∀ {rd : Reader}, rd.eventsAct = true → rd.started = true := fun h => (Bool.and_eq_true_iff.mp h).1
  have hjudges : ∀ {rd : Reader}, rd.judgementsAct = true → rd.started = true := by
    intro rd h
    unfold Reader.judgementsAct at h
    simp only [Bool.and_eq_true, beq_iff_eq] at h
    exact Reader.started_iff.mpr (.inl h.1.1)
  cases h with
  | entry x0 x1 first => exact entryEvent_runs r x0 x1 first s
  | pulse => exact realPulse_runs r s
  | loseClock => exact loseClock_runs r s
  | regainClock => exact regainClock_runs r s
  | laneStuck => exact lanesBecomeStuck_runs r s
  | holdover hdue => exact ⟨_, _, (holdoverEntry_yields r s).runs (.holdover hdue) (Reader.started_of_holdoverDue hdue)⟩
  | tick hdue => exact ⟨_, _, (virtualTick_yields r s).runs (.tick hdue) (Reader.started_of_tickDue hdue)⟩
  | runClose l h => exact ⟨_, _, (runCloses_works r l s).runs .stays (hjudges h)⟩
  | saturationEnd l h => exact ⟨_, _, (endSaturation_works r l s).runs .stays (hjudges h)⟩
  | postContext h => exact ⟨_, _, (commitDue_works r _ s).runs .stays (hstarted h)⟩
  | cut h => exact ⟨_, _, (commitDue_works r _ s).runs .stays (hstarted h)⟩
  | deadline h => exact ⟨_, _, (deadlinePasses_works r s).runs .stays (hstarted h)⟩
  | spliceClose h => exact ⟨_, _, (works_of_act (act_closeSplices _)).runs .stays (hstarted h)⟩
  | entryRemoval h => exact ⟨_, _, (works_of_act (act_removeLeft _)).runs .stays (hstarted h)⟩
  | periodEnd h =>
    have hrunning : (s.rd r).state = .running := by
      unfold Reader.periodDue at h
      simp only [Bool.and_eq_true, beq_iff_eq] at h
      exact h.1
    exact ⟨_, _, (endPeriod_yields r _ s).runs .period (Reader.started_iff.mpr (.inl hrunning))⟩
  | hissBlock l h =>
    refine ⟨_, _, Runs.of_calm (.hissBlock l h) ?_ ?_⟩
    · rw [State.rd_onReader_self]
    · cases l <;> rfl

/-! ## Invariants of a reader -/

/-- A predicate of a reader that every change of the part keeps. -/
structure Kept (I : Reader → Prop) : Prop where
  calm : ∀ {a b : Reader}, a.calm = b.calm → I a → I b
  request : ∀ {rd : Reader} {f : Reader → Reader}, I rd → RequestAct rd f → I (f rd)
  start : ∀ {rd : Reader} (mode : LaneMode) (startFrame : BitVec 32), I rd → I (rd.recordStart mode startFrame.toNat).startPoint
  stop : ∀ {rd : Reader}, I rd → I rd.stop
  reset : I Reader.reset
  runs : ∀ {rd base x rd' : Reader}, I rd → Runs rd base x rd' → I rd'

theorem ReaderId.eq_or_other (r k : ReaderId) : k = r ∨ k = otherReader r := by cases r <;> cases k <;> decide

/-- Every change keeps what is kept. -/
theorem Kept.change {I : Reader → Prop} (kept : Kept I) {s t : State} (hs : ∀ r, I (s.rd r)) (h : Change (fun _ => True) s t) (k : ReaderId) :
    I (t.rd k) := by
  have hwithin : ∀ {r : ReaderId}, Within r s t → I (t.rd r) → I (t.rd k) := by
    intro r hw hr
    rcases ReaderId.eq_or_other r k with rfl | rfl
    · exact hr
    · exact kept.calm hw.other.symm (hs _)
  cases h with
  | request r f _ h =>
    refine hwithin (within_onReader s r f) ?_
    rw [State.rd_onReader_self]
    exact kept.request (hs r) h
  | event r t _ h =>
    obtain ⟨base, x, hruns⟩ := h.runs
    exact hwithin h.within (kept.runs (hs r) hruns)
  | start r mode startFrame _ _ =>
    refine hwithin (startChange_within r _ s) (kept.calm ?_ (kept.start mode startFrame (hs r)))
    rw [(startPoint_ends r _).calm r, State.rd_onReader_self, State.rd_onReader_self]
  | stop r _ =>
    refine hwithin (stopChange_within r s) (kept.calm ?_ (kept.stop (hs r)))
    rw [(offerStuckChanges_ends _ r _ _).calm r, State.rd_onReader_self]
  | queue f =>
    rw [State.rd_onQueue]
    exact hs k
  | link f =>
    rw [State.rd_onLink]
    exact hs k
  | watches => exact kept.calm (s.evaluateWatches_settles.1.calm k).symm (hs k)
  | reset rate =>
    cases k
    · exact kept.reset
    · exact kept.reset
  | cts level =>
    have hrd : (setCts level s).rd k = s.rd k := by cases k <;> rfl
    rw [hrd]
    exact hs k

theorem State.eachReader_iff {s : State} {I : Reader → Prop} : s.EachReader I ↔ ∀ r, I (s.rd r) :=
  ⟨fun h r => by cases r <;> [exact h.1; exact h.2], fun h => ⟨h .a, h .b⟩⟩

/-- Every step keeps what is kept. -/
theorem Kept.step {I : Reader → Prop} (kept : Kept I) {s t : State} (hs : s.EachReader I) (h : step s = .next t) : t.EachReader I := by
  refine State.eachReader_iff.mpr (step_keeps (P := fun s => ∀ r, I (s.rd r)) (fun s q hs r => ?_) (fun s t hs hc => kept.change hs hc)
    (State.eachReader_iff.mp hs) h)
  have hrd : ({ s with pending := q } : State).rd r = s.rd r := by cases r <;> rfl
  rw [hrd]
  exact hs r

end Sys2Proof.Machine
end

section
/-! The courses of events as chains of small changes, and what every chain keeps. -/

open Relation (ReflTransGen)

namespace Sys2Proof.Machine

/-! ## Small changes -/

/-- One change of a reader by an event, beside the table's work. -/
inductive SmallChange (rd : Reader) : Reader → Prop
  | idle (x0 x1 : Sample) (hclock : rd.clockLost = false) : SmallChange rd (enterIdle x0 x1 rd)
  | sample (x0 x1 : Sample) : SmallChange rd (rd.sampled x0 x1)
  | running (c0 c1 : Cell) (hclock : rd.clockLost = false) : SmallChange rd (processRunning c0 c1 rd)
  | bypassed (c0 c1 : Cell) (hclock : rd.clockLost = false) : SmallChange rd (processBypassed c0 c1 rd)
  | refer : SmallChange rd { rd with monitor := rd.monitor.refer 0 rd.clockLost }
  | pulse (hstarted : rd.started = true) :
      SmallChange rd { rd with monitor := (rd.monitor.pulse rd.active rd.index rd.clockLost).monitor }
  | holdover (hstarted : rd.started = true) : SmallChange rd { rd with monitor := rd.monitor.enterHoldover }
  | tick (hstarted : rd.started = true) : SmallChange rd { rd with monitor := rd.monitor.tick rd.index }
  | free (hstarted : rd.started = true) : SmallChange rd { rd with monitor := rd.monitor.enterFree rd.active }
  | recompute : SmallChange rd rd.recomputeHum
  | apply (hreleases : rd.params.releases = true) : SmallChange rd rd.applied
  | count : SmallChange rd rd.humCount
  | settle : SmallChange rd rd.settleHum
  | schedule : SmallChange rd rd.scheduled
  | expire : SmallChange rd rd.expired
  | loseClock : SmallChange rd { rd with clockLost := true, output := none, monitor := rd.monitor.loseClock }
  | regainClock : SmallChange rd { rd with clockLost := false }
  | stuck : SmallChange rd (rd.onLanes (·.becomeStuck rd.active))
  | hissBlock (l : Lane) (hdue : rd.hissBlockDue l = true) : SmallChange rd (completeHissBlock l rd)

abbrev SmallChanges : Reader → Reader → Prop := ReflTransGen SmallChange

theorem humCounted_changes (rd : Reader) : SmallChanges rd rd.humCounted := by
  unfold Reader.humCounted
  split
  · split
    · exact (ReflTransGen.single .count).tail .settle
    · exact .single .count
  · exact .refl

theorem appliedAtFrame_changes (rd : Reader) : SmallChanges rd rd.appliedAtFrame := by
  unfold Reader.appliedAtFrame
  split
  · rename_i h
    exact .single (.apply (Bool.and_eq_true_iff.mp h).2)
  · exact .refl

theorem atFrame_changes (rd : Reader) (ev : FrameEvent) : SmallChanges rd (rd.atFrame ev) := by
  have htick := (appliedAtFrame_changes rd).trans (humCounted_changes rd.appliedAtFrame)
  cases ev with
  | tick => exact htick
  | arming => exact htick.tail .schedule
  | pulse => exact (htick.tail .schedule).tail .expire

theorem pulsed_changes {rd : Reader} (h : rd.started = true) : SmallChanges rd rd.pulsed := by
  unfold Reader.pulsed
  dsimp only
  split
  · exact (ReflTransGen.single (.pulse h)).tail .recompute
  · exact .single (.pulse h)

theorem ticked_changes {rd : Reader} (h : rd.started = true) : SmallChanges rd rd.ticked := by
  unfold Reader.ticked
  dsimp only
  split
  · exact ((ReflTransGen.single (.tick h)).tail (.free h)).tail .recompute
  · exact .single (.tick h)

theorem heldOver_changes {rd : Reader} (h : rd.started = true) : SmallChanges rd rd.heldOver :=
  ReflTransGen.head (.holdover h) (ReflTransGen.trans (ticked_changes h) (atFrame_changes _ .tick))

theorem monitored_changes (rd : Reader) : SmallChanges rd rd.monitored := by
  unfold Reader.monitored
  split
  · exact heldOver_changes (Reader.started_of_holdoverDue ‹_›)
  · split
    · exact (ticked_changes (Reader.started_of_tickDue ‹_›)).trans (atFrame_changes _ .tick)
    · exact .refl

/-- The course of every event is a chain of small changes. -/
theorem EventCourse.changes {rd base x : Reader} (h : EventCourse rd base x) : SmallChanges base x := by
  cases h with
  | stays => exact .refl
  | idle x0 x1 hclock => exact .single (.idle x0 x1 hclock)
  | ran x0 x1 _ hclock =>
    exact ((ReflTransGen.single (SmallChange.sample x0 x1)).tail (.running _ _ hclock)).trans (monitored_changes _)
  | passed x0 x1 _ hclock =>
    exact ((ReflTransGen.single (SmallChange.sample x0 x1)).tail (.bypassed _ _ hclock)).trans (monitored_changes _)
  | arming => exact atFrame_changes _ .arming
  | pulse h => exact (pulsed_changes h).trans (atFrame_changes _ .pulse)
  | loseClock => exact .single .loseClock
  | regainClock => exact .single .regainClock
  | stuck => exact .single .stuck
  | holdover hdue => exact heldOver_changes (Reader.started_of_holdoverDue hdue)
  | tick hdue => exact (ticked_changes (Reader.started_of_tickDue hdue)).trans (atFrame_changes _ .tick)
  | period => exact .single .settle
  | hissBlock l hdue => exact .single (.hissBlock l hdue)

/-- The table's work begins on the reader, or on the reader at its start point with the arming pulse. -/
theorem EventCourse.base {rd base x : Reader} (h : EventCourse rd base x) : base = rd ∨ base = rd.armedStart := by
  cases h with
  | arming => exact .inr rfl
  | _ => exact .inl rfl

/-! ## Two kinds of invariants -/

/-- What requests, starts and the reset keep. -/
structure KeptByRequests (I : Reader → Prop) : Prop where
  request : ∀ {rd : Reader} {f : Reader → Reader}, I rd → RequestAct rd f → I (f rd)
  record : ∀ {rd : Reader} (mode : LaneMode) (startFrame : BitVec 32), I rd → I (rd.recordStart mode startFrame.toNat)
  start : ∀ {rd : Reader}, I rd → I rd.startPoint
  stop : ∀ {rd : Reader}, I rd → I rd.stop
  reset : I Reader.reset

/-- A predicate of what the table's work leaves, kept by the small changes. -/
theorem kept_of_still {I : Reader → Prop} (hstill : ∀ {a b : Reader}, a.still = b.still → I a → I b) (requests : KeptByRequests I)
    (hsmall : ∀ {rd x : Reader}, I rd → SmallChange rd x → I x) : Kept I where
  calm h := hstill (still_of_calm h)
  request := requests.request
  start mode startFrame h := requests.start (requests.record mode startFrame h)
  stop := requests.stop
  reset := requests.reset
  runs := by
    intro rd base x rd' hrd hruns
    refine hstill hruns.still.symm ?_
    have hbase : I base := by
      rcases hruns.course.base with rfl | rfl
      · exact hrd
      · exact hsmall (requests.start hrd) .refer
    have hchain := hruns.course.changes
    clear hruns
    induction hchain with
    | refl => exact hbase
    | tail _ hab ih => exact hsmall ih hab

/-- A predicate of what the table's work moves, kept by its acts. -/
theorem kept_of_moving {I : Reader → Prop} (hmoving : ∀ {a b : Reader}, a.moving = b.moving → I a → I b) (requests : KeptByRequests I)
    (hact : ∀ {rd x : Reader}, I rd → TableAct rd x → I x) : Kept I where
  calm h := hmoving (moving_of_calm h)
  request := requests.request
  start mode startFrame h := requests.start (requests.record mode startFrame h)
  stop := requests.stop
  reset := requests.reset
  runs := by
    intro rd base x rd' hrd hruns
    have hbase : I base := by
      rcases hruns.course.base with rfl | rfl
      · exact hrd
      · have hsame : rd.startPoint.moving = rd.armedStart.moving := rfl
        exact hmoving hsame (requests.start hrd)
    have hchain := hruns.acts
    clear hruns
    induction hchain with
    | refl => exact hbase
    | tail _ hab ih => exact hab.elim (fun h => hact ih h) fun h => hmoving h.symm ih

theorem Kept.and {I J : Reader → Prop} (hI : Kept I) (hJ : Kept J) : Kept fun rd => I rd ∧ J rd where
  calm h := And.imp (hI.calm h) (hJ.calm h)
  request h ha := ⟨hI.request h.1 ha, hJ.request h.2 ha⟩
  start mode f h := ⟨hI.start mode f h.1, hJ.start mode f h.2⟩
  stop h := ⟨hI.stop h.1, hJ.stop h.2⟩
  reset := ⟨hI.reset, hJ.reset⟩
  runs h hr := ⟨hI.runs h.1 hr, hJ.runs h.2 hr⟩

theorem Kept.congr {I J : Reader → Prop} (h : Kept I) (hIJ : ∀ rd, I rd ↔ J rd) : Kept J := by
  have heq : I = J := funext fun rd => propext (hIJ rd)
  exact heq ▸ h

end Sys2Proof.Machine
end

section
/-! The hum weights in range, and the stores and counters within their limits (R3, R15, R24, R29, R80, R83, R105, R114, R119, R163). -/

namespace Sys2Proof.Machine

/-! ## Hum weights -/

theorem HumLaneSlot.sound_cleared (status : HumStatus) : (HumLaneSlot.cleared status).Sound := by
  simp [HumLaneSlot.Sound, HumLaneSlot.cleared]

theorem HumLaneSlot.Sound.bandTest {x : HumLaneSlot} (h : x.Sound) (delta : BitVec 32) : (x.bandTest delta).Sound := by
  unfold HumLaneSlot.bandTest
  split
  · exact sound_cleared _
  · exact h

theorem HumLaneSlot.Sound.apply {x : HumLaneSlot} (h : x.Sound) (changed : Bool) (c : HumConfig) (delta : BitVec 32) :
    (x.apply changed c delta).Sound := by
  unfold HumLaneSlot.apply
  split
  · exact sound_cleared _
  · exact h.bandTest delta

theorem holdWeight_bounds (w : Int) : -8388607 ≤ holdWeight w ∧ holdWeight w ≤ 8388607 := by
  unfold holdWeight clampInt Config.weightLimit
  omega

/-- An update moves the weights of an active slot within their range (R114). -/
theorem HumLaneSlot.Sound.update {x : HumLaneSlot} (h : x.Sound) (hactive : x.status.active = true) (theta : BitVec 32) (shift : Nat)
    (e : Int) : (x.update theta shift e).Sound := by
  obtain ⟨_, _, _, _, hrun, hlow, _⟩ := h
  have hc := holdWeight_bounds (x.wc + divPow2 (e * cosineOf theta) shift)
  have hs := holdWeight_bounds (x.ws + divPow2 (e * sineOf theta) shift)
  exact ⟨hc.1, hc.2, hs.1, hs.2, hrun, hlow, fun hrest => absurd (hactive.symm.trans hrest) nofun⟩

theorem HumLaneSlot.Sound.judge {x : HumLaneSlot} (h : x.Sound) : x.judge.Sound := h

/-- A settled slot that has a fault loses its weights, and is PARKED at its fourth fault in a row (R119). -/
theorem HumLaneSlot.Sound.settle {x : HumLaneSlot} (h : x.Sound) : x.settle.Sound := by
  unfold HumLaneSlot.settle
  split
  · rename_i hactive
    obtain ⟨hwc, hwc', hws, hws', hrun, hlow, hrest⟩ := h
    have hrun' := hlow hactive
    split
    · by_cases hlast : 4 ≤ x.faultRun + 1
      · rw [if_pos hlast]
        exact ⟨by simp, by simp, by simp, by simp, hrun', nofun, fun _ => ⟨rfl, rfl⟩⟩
      · rw [if_neg hlast]
        exact ⟨by simp, by simp, by simp, by simp, hrun', fun _ => Nat.not_le.mp hlast, fun _ => ⟨rfl, rfl⟩⟩
    · have hstatus : (if x.fresh then HumStatus.locked else .seeking).active = true := by
        split <;> rfl
      exact ⟨hwc, hwc', hws, hws', Nat.zero_le _, fun _ => Nat.succ_pos _, fun hno => absurd (hstatus.symm.trans hno) nofun⟩
  · exact h

theorem HumLaneSlot.Sound.stopped {x : HumLaneSlot} (h : x.Sound) :
    ({ x with wc := 0, ws := 0, aPrev := 0, fresh := false, fault := false } : HumLaneSlot).Sound := by
  obtain ⟨_, _, _, _, hrun, hlow, _⟩ := h
  exact ⟨by simp, by simp, by simp, by simp, hrun, hlow, fun _ => ⟨rfl, rfl⟩⟩

/-- Every slot of a lane is sound. -/
def HumsSound (v : Vector HumLaneSlot 12) : Prop := ∀ i : Fin 12, v[i].Sound

theorem HumsSound.map {v : Vector HumLaneSlot 12} (h : HumsSound v) {f : HumLaneSlot → HumLaneSlot} (hf : ∀ x, x.Sound → (f x).Sound) :
    HumsSound (v.map f) := by
  intro i
  rw [Vector.getElem_fin_map]
  exact hf _ (h i)

theorem humsSound_ofFn {f : Fin 12 → HumLaneSlot} (h : ∀ i, (f i).Sound) : HumsSound (Vector.ofFn f) := by
  intro i
  rw [Fin.getElem_fin, Vector.getElem_ofFn]
  exact h i

theorem LaneState.HumSound.processExit {ln : LaneState} (h : ln.HumSound) (hum : Hum) (p : ParamSet) (fallback : Bool) (x : Sample) :
    (ln.processExit hum p fallback x).HumSound := by
  intro i
  rw [LaneState.hum_processExit]
  cases fallback with
  | true => exact h i
  | false =>
    change (LaneState.adapt _ _ _ _).hum[i].Sound
    rw [LaneState.hum_adapt]
    split
    · rename_i hactive
      exact (h i).update hactive _ _ _
    · exact h i

theorem LaneState.HumSound.judgeHum {ln : LaneState} (h : ln.HumSound) : ln.judgeHum.HumSound := by
  intro i
  rw [LaneState.hum_judgeHum]
  split
  · exact (h i).judge
  · exact h i

theorem LaneState.hum_becomeStuck (ln : LaneState) (p : ParamSet) : (ln.becomeStuck p).hum = ln.hum := by
  unfold LaneState.becomeStuck
  split <;> rfl

/-- Both lanes' slots are sound. -/
def Reader.HumSound (rd : Reader) : Prop := rd.lane0.HumSound ∧ rd.lane1.HumSound

theorem Reader.HumSound.lanes {rd : Reader} (h : rd.HumSound) {f : LaneState → LaneState} (hf : ∀ ln, ln.HumSound → (f ln).HumSound) :
    (rd.onLanes f).HumSound := ⟨hf _ h.1, hf _ h.2⟩

theorem Reader.HumSound.of_still {a b : Reader} (hab : a.still = b.still) (h : a.HumSound) : b.HumSound :=
  show b.still.HumSound from hab ▸ (show a.still.HumSound from h)

theorem Reader.HumSound.small {rd x : Reader} (h : rd.HumSound) (hx : SmallChange rd x) : x.HumSound := by
  cases hx with
  | running c0 c1 => exact ⟨h.1.processExit _ _ _ _, h.2.processExit _ _ _ _⟩
  | recompute => exact h.lanes (f := (·.bandTest _)) fun ln hln => humsSound_ofFn fun i => (hln i).bandTest _
  | apply =>
    exact ⟨humsSound_ofFn fun i => (h.1 i).apply _ _ _, humsSound_ofFn fun i => (h.2 i).apply _ _ _⟩
  | count => exact ⟨h.1.judgeHum, h.2.judgeHum⟩
  | settle => exact ⟨HumsSound.map h.1 fun _ hx => hx.settle, HumsSound.map h.2 fun _ hx => hx.settle⟩
  | stuck =>
    refine h.lanes fun ln hln => ?_
    unfold LaneState.HumSound
    rw [LaneState.hum_becomeStuck]
    exact hln
  | hissBlock l => cases l <;> exact h
  | _ => exact h

theorem kept_humSound : Kept Reader.HumSound := by
  refine kept_of_still (fun hab h => ?still) ⟨fun h hf => ?request, fun _ _ h => h, fun _ => ?start, fun h => ?stop, ?reset⟩
    Reader.HumSound.small
  case still => exact Reader.HumSound.of_still hab h
  case request => cases hf <;> exact h
  case start => exact ⟨humsSound_ofFn fun i => HumLaneSlot.sound_cleared _, humsSound_ofFn fun i => HumLaneSlot.sound_cleared _⟩
  case stop => exact ⟨HumsSound.map h.1 fun _ hx => hx.stopped, HumsSound.map h.2 fun _ hx => hx.stopped⟩
  case reset =>
    have hreset : HumsSound (Vector.replicate 12 HumLaneSlot.reset) := by
      intro i
      rw [Fin.getElem_fin, Vector.getElem_replicate]
      simp [HumLaneSlot.Sound, HumLaneSlot.reset]
    exact ⟨hreset, hreset⟩

/-- Settles O9: every small change keeps every slot sound. -/
theorem everyStepKeepsHumWeightsInRange : Obligations.EveryStepKeepsHumWeightsInRange := by
  unfold Obligations.EveryStepKeepsHumWeightsInRange
  intro s t hs ht
  exact kept_humSound.step hs ht

end Sys2Proof.Machine
end

section
/-! The stores and the counters within their limits (R3, R15, R24, R25, R29, R80, R83, R163). -/

namespace Sys2Proof.Machine

/-! ## Windows -/

def Reader.WindowsSound (rd : Reader) : Prop := rd.lane0.window.length = 1024 ∧ rd.lane1.window.length = 1024

theorem LaneState.length_window_enter {ln : LaneState} (h : ln.window.length = 1024) (p : ParamSet) (judged : Bool) (x : Sample) :
    (ln.enter p judged x).window.length = 1024 := by
  simp [LaneState.enter, pushCell, h]

theorem LaneState.length_window_becomeStuck (ln : LaneState) (p : ParamSet) :
    (ln.becomeStuck p).window.length = ln.window.length := by
  unfold LaneState.becomeStuck
  split
  · cases ln.window <;> rfl
  · rfl

theorem LaneState.window_processExit (ln : LaneState) (h : Hum) (p : ParamSet) (fallback : Bool) (x : Sample) :
    (ln.processExit h p fallback x).window = ln.window := by
  cases fallback <;> rfl

theorem Reader.window_applied (rd : Reader) : rd.applied.lane0.window = rd.lane0.window ∧ rd.applied.lane1.window = rd.lane1.window :=
  ⟨(congrArg (fun x => x.lane0.window) rd.besideFrame_applied :), (congrArg (fun x => x.lane1.window) rd.besideFrame_applied :)⟩

theorem Reader.WindowsSound.of_still {a b : Reader} (hab : a.still = b.still) (h : a.WindowsSound) : b.WindowsSound := by
  have hlength : ∀ rd : Reader, rd.still.WindowsSound ↔ rd.WindowsSound := by
    intro rd
    unfold Reader.WindowsSound Reader.still LaneState.still
    rw [List.length_map, List.length_map]
  exact (hlength b).mp (hab ▸ (hlength a).mpr h)

theorem Reader.WindowsSound.small {rd x : Reader} (h : rd.WindowsSound) (hx : SmallChange rd x) : x.WindowsSound := by
  obtain ⟨h0, h1⟩ := h
  cases hx with
  | idle | sample => exact ⟨LaneState.length_window_enter h0 _ _ _, LaneState.length_window_enter h1 _ _ _⟩
  | running =>
    exact ⟨(congrArg List.length (LaneState.window_processExit _ _ _ _ _)).trans h0,
      (congrArg List.length (LaneState.window_processExit _ _ _ _ _)).trans h1⟩
  | apply =>
    exact ⟨(congrArg List.length rd.window_applied.1).trans h0, (congrArg List.length rd.window_applied.2).trans h1⟩
  | stuck =>
    exact ⟨(LaneState.length_window_becomeStuck _ _).trans h0, (LaneState.length_window_becomeStuck _ _).trans h1⟩
  | hissBlock l => cases l <;> exact ⟨h0, h1⟩
  | _ => exact ⟨h0, h1⟩

theorem kept_windowsSound : Kept Reader.WindowsSound :=
  kept_of_still Reader.WindowsSound.of_still
    ⟨fun h hf => by cases hf <;> exact h, fun _ _ h => h, fun h => h, fun h => h,
      ⟨List.length_replicate, List.length_replicate⟩⟩
    Reader.WindowsSound.small

/-! ## The capture copy -/

def Capture.Sound (c : Capture) : Prop := c.copy0.length = 320 ∧ c.copy1.length = 320 ∧ c.descriptor.count ≤ 320

def Reader.CaptureSound (rd : Reader) : Prop := rd.capture.Sound

theorem captureCount_le (n : Nat) (d : Defect) : captureCount n d ≤ 320 := Nat.min_le_right _ _

theorem LaneState.length_copyValues (ln : LaneState) (n first : Nat) {count : Nat} (hcount : count ≤ 320) {old : List Sample}
    (h : old.length = 320) : (ln.copyValues n first count old).length = 320 := by
  simp [LaneState.copyValues, h]
  omega

theorem Reader.CaptureSound.captureAfter {rd : Reader} (h : rd.CaptureSound) (d : Defect) (number : Nat) :
    (rd.captureAfter d number).Sound := by
  obtain ⟨h0, h1, hcount⟩ := h
  have hle := captureCount_le rd.entered d
  unfold Reader.captureAfter
  split
  · refine ⟨?_, ?_, hle⟩
    · change (if _ then _ else _ : List Sample).length = 320
      split
      · exact LaneState.length_copyValues _ _ _ hle h0
      · exact h0
    · change (if _ then _ else _ : List Sample).length = 320
      split
      · exact LaneState.length_copyValues _ _ _ hle h1
      · exact h1
  · exact ⟨h0, h1, hcount⟩

theorem Reader.CaptureSound.act {rd x : Reader} (h : rd.CaptureSound) (hx : TableAct rd x) : x.CaptureSound := by
  cases hx with
  | record k d complete => exact h.captureAfter d _
  | detector l f => cases l <;> exact h
  | _ => exact h

theorem Reader.CaptureSound.of_moving {a b : Reader} (hab : a.moving = b.moving) (h : a.CaptureSound) : b.CaptureSound := by
  have hcapture : a.capture = b.capture := congrArg Moving.capture hab
  exact show b.capture.Sound from hcapture ▸ (show a.capture.Sound from h)

theorem kept_captureSound : Kept Reader.CaptureSound :=
  kept_of_moving Reader.CaptureSound.of_moving
    ⟨fun h hf => by cases hf <;> exact h, fun _ _ h => h, fun h => h, fun h => h,
      ⟨List.length_replicate, List.length_replicate, Nat.zero_le _⟩⟩
    Reader.CaptureSound.act

/-! ## The counters of the film's speed and of equal samples -/

def Monitor.CountsSound (m : Monitor) : Prop := m.frameCount < 2 ^ 32 ∧ m.glitches ≤ 65535 ∧ m.rejected.length ≤ 2

theorem holdingSucc_le (limit n : Nat) : holdingSucc limit n ≤ limit := Nat.min_le_right _ _

theorem Monitor.CountsSound.counted {m : Monitor} (h : m.CountsSound) : m.counted.CountsSound :=
  ⟨Nat.lt_of_le_of_lt (holdingSucc_le _ _) (by decide), h.2.1, h.2.2⟩

theorem Monitor.CountsSound.emptied {m : Monitor} (h : m.CountsSound) (state : MonitorState) (smoothed ticks : Nat) :
    ({ m with state := state, smoothed := smoothed, holdoverTicks := ticks, rejected := [] } : Monitor).CountsSound :=
  ⟨h.1, h.2.1, Nat.zero_le _⟩

theorem Monitor.CountsSound.rejectedTo {m : Monitor} (h : m.CountsSound) {run : List Nat} (hrun : run.length ≤ 2) (smoothed : Nat) :
    (m.rejectedTo run smoothed).CountsSound :=
  ⟨h.1, holdingSucc_le _ _, hrun⟩

theorem Monitor.CountsSound.reject {m : Monitor} (h : m.CountsSound) (p : ParamSet) (n : Nat) :
    (m.counted.reject p n).monitor.CountsSound := by
  by_cases hin : inBounds p n = true
  · rcases hrun : m.rejected with _ | ⟨p1, _ | ⟨p2, more⟩⟩
    · rw [Monitor.reject_first hin hrun]
      exact h.counted.rejectedTo (by simp) _
    · rw [Monitor.reject_second hin hrun]
      refine h.counted.rejectedTo ?_ _
      split <;> simp
    · rw [Monitor.reject_third hin hrun]
      split
      · exact h.counted.rejectedTo (by simp) _
      · exact h.counted.rejectedTo (by simp) _
  · rw [Monitor.reject_outside hin]
    exact h.counted.rejectedTo (by simp) _

theorem Monitor.CountsSound.judge {m : Monitor} (h : m.CountsSound) (p : ParamSet) (i : Option Nat) :
    (m.counted.judge p i).monitor.CountsSound := by
  by_cases htracking : m.state = .tracking
  · rw [Monitor.judge_of_tracking htracking]
    cases i with
    | none => exact h.counted.emptied _ _ _
    | some n =>
      unfold Monitor.judgeTracking
      dsimp only
      split
      · exact h.counted.emptied _ _ _
      · exact h.reject p n
  · by_cases hholdover : m.state = .holdover
    · rw [Monitor.judge_of_holdover hholdover]
      exact h.counted.emptied _ _ _
    · rw [Monitor.judge_of_seeding htracking hholdover]
      cases i with
      | none => exact h.counted.emptied _ _ _
      | some n =>
        unfold Monitor.judgeSeeding
        dsimp only
        split
        · exact h.counted.emptied _ _ _
        · exact h.counted

theorem Monitor.CountsSound.tick {m : Monitor} (h : m.CountsSound) (n : Nat) : (m.tick n).CountsSound := by
  unfold Monitor.tick
  split <;> exact h

def Reader.TimingSound (rd : Reader) : Prop :=
  rd.pendingStart < 2 ^ 32 ∧ rd.monitor.CountsSound ∧ rd.lane0.equalRun ≤ 65535 ∧ rd.lane1.equalRun ≤ 65535

theorem LaneState.equalRun_enter {ln : LaneState} (h : ln.equalRun ≤ 65535) (p : ParamSet) (judged : Bool) (x : Sample) :
    (ln.enter p judged x).equalRun ≤ 65535 := by
  cases judged with
  | false => exact h
  | true =>
    change ln.equalRunAfter x ≤ 65535
    unfold LaneState.equalRunAfter
    split
    · exact holdingSucc_le _ _
    · exact Nat.zero_le _

theorem LaneState.equalRun_becomeStuck (ln : LaneState) (p : ParamSet) : (ln.becomeStuck p).equalRun = ln.equalRun := by
  unfold LaneState.becomeStuck
  split <;> rfl

theorem LaneState.equalRun_processExit (ln : LaneState) (h : Hum) (p : ParamSet) (fallback : Bool) (x : Sample) :
    (ln.processExit h p fallback x).equalRun = ln.equalRun := by
  cases fallback <;> rfl

theorem Reader.equalRun_applied (rd : Reader) :
    rd.applied.pendingStart = rd.pendingStart ∧ rd.applied.lane0.equalRun = rd.lane0.equalRun ∧
      rd.applied.lane1.equalRun = rd.lane1.equalRun :=
  ⟨(congrArg Reader.pendingStart rd.besideFrame_applied :), (congrArg (fun x => x.lane0.equalRun) rd.besideFrame_applied :),
    (congrArg (fun x => x.lane1.equalRun) rd.besideFrame_applied :)⟩

theorem Reader.TimingSound.small {rd x : Reader} (h : rd.TimingSound) (hx : SmallChange rd x) : x.TimingSound := by
  obtain ⟨hstart, hmonitor, h0, h1⟩ := h
  cases hx with
  | idle | sample => exact ⟨hstart, hmonitor, LaneState.equalRun_enter h0 _ _ _, LaneState.equalRun_enter h1 _ _ _⟩
  | running =>
    exact ⟨hstart, hmonitor, (LaneState.equalRun_processExit _ _ _ _ _).trans_le h0, (LaneState.equalRun_processExit _ _ _ _ _).trans_le h1⟩
  | refer | loseClock => exact ⟨hstart, hmonitor, h0, h1⟩
  | pulse => exact ⟨hstart, hmonitor.judge _ _, h0, h1⟩
  | holdover => exact ⟨hstart, hmonitor.emptied _ _ _, h0, h1⟩
  | tick => exact ⟨hstart, hmonitor.tick _, h0, h1⟩
  | free => exact ⟨hstart, hmonitor.emptied _ _ _, h0, h1⟩
  | apply =>
    obtain ⟨hs, he0, he1⟩ := rd.equalRun_applied
    refine ⟨hs.trans_lt hstart, ?_, he0.trans_le h0, he1.trans_le h1⟩
    rw [Reader.monitor_applied]
    exact hmonitor
  | stuck =>
    exact ⟨hstart, hmonitor, (LaneState.equalRun_becomeStuck _ _).trans_le h0, (LaneState.equalRun_becomeStuck _ _).trans_le h1⟩
  | hissBlock l => cases l <;> exact ⟨hstart, hmonitor, h0, h1⟩
  | _ => exact ⟨hstart, hmonitor, h0, h1⟩

theorem Reader.TimingSound.of_still {a b : Reader} (hab : a.still = b.still) (h : a.TimingSound) : b.TimingSound :=
  show b.still.TimingSound from hab ▸ (show a.still.TimingSound from h)

theorem Reader.TimingSound.startPoint {rd : Reader} (h : rd.TimingSound) : rd.startPoint.TimingSound := by
  refine ⟨h.1, ?_, Nat.zero_le _, Nat.zero_le _⟩
  rw [Reader.monitor_startPoint]
  exact ⟨h.1, Nat.zero_le _, Nat.zero_le _⟩

theorem Reader.TimingSound.stop {rd : Reader} (h : rd.TimingSound) : rd.stop.TimingSound := by
  obtain ⟨hstart, ⟨hframe, hglitch, _⟩, _, _⟩ := h
  exact ⟨hstart, ⟨hframe, hglitch, Nat.zero_le _⟩, Nat.zero_le _, Nat.zero_le _⟩

theorem kept_timingSound : Kept Reader.TimingSound := by
  refine kept_of_still Reader.TimingSound.of_still
    ⟨fun h hf => ?_, fun _ startFrame h => ⟨startFrame.isLt, h.2⟩, Reader.TimingSound.startPoint, Reader.TimingSound.stop, ?_⟩
    Reader.TimingSound.small
  · cases hf with
    | arm _ startFrame => exact ⟨startFrame.isLt, h.2⟩
    | _ => exact h
  · exact ⟨by decide, ⟨by decide, Nat.zero_le _, Nat.zero_le _⟩, Nat.zero_le _, Nat.zero_le _⟩

/-! ## The counters of the defect log -/

def Reader.LogSound (rd : Reader) : Prop :=
  rd.unrecorded ≤ 65535 ∧ rd.committedTotal < 2 ^ 32 ∧ 1 ≤ rd.nextNumber ∧ rd.nextNumber < 2 ^ 32

theorem numberAfter_bounds (n : Nat) : 1 ≤ numberAfter n ∧ numberAfter n < 2 ^ 32 := by
  unfold numberAfter
  split <;> omega

theorem Reader.LogSound.act {rd x : Reader} (h : rd.LogSound) (hx : TableAct rd x) : x.LogSound := by
  obtain ⟨hun, htotal, hfirst, hnext⟩ := h
  have htotal' : holdingSucc (2 ^ 32 - 1) rd.committedTotal < 2 ^ 32 := Nat.lt_of_le_of_lt (holdingSucc_le _ _) (by decide)
  cases hx with
  | record | missed => exact ⟨hun, htotal', (numberAfter_bounds _).1, (numberAfter_bounds _).2⟩
  | refuse | count => exact ⟨holdingSucc_le _ _, htotal, hfirst, hnext⟩
  | table => exact ⟨hun, htotal, hfirst, hnext⟩
  | detector l => cases l <;> exact ⟨hun, htotal, hfirst, hnext⟩

theorem Reader.LogSound.of_moving {a b : Reader} (hab : a.moving = b.moving) (h : a.LogSound) : b.LogSound := by
  have hun : a.unrecorded = b.unrecorded := congrArg Moving.unrecorded hab
  have htotal : a.committedTotal = b.committedTotal := congrArg Moving.committedTotal hab
  have hnext : a.nextNumber = b.nextNumber := congrArg Moving.nextNumber hab
  unfold Reader.LogSound at h ⊢
  rwa [← hun, ← htotal, ← hnext]

theorem kept_logSound : Kept Reader.LogSound := by
  refine kept_of_moving Reader.LogSound.of_moving
    ⟨fun h hf => ?_, fun _ _ h => h, fun h => ⟨h.1, h.2.1, le_rfl, show 1 < 2 ^ 32 by decide⟩, fun h => h, by decide, by decide, by decide, by decide⟩
    Reader.LogSound.act
  cases hf with
  | clearUnrecorded => exact ⟨Nat.zero_le _, h.2⟩
  | _ => exact h

/-- Settles O8: windows and the counts of the film's speed stand beside the table's work, copies and the log's counts move in it. -/
theorem everyStepKeepsStoresAndCounters : Obligations.EveryStepKeepsStoresAndCounters := by
  unfold Obligations.EveryStepKeepsStoresAndCounters
  refine ⟨fun s t hs ht => ?stores, fun s t hs ht => ?counts⟩
  case stores =>
    refine ((kept_windowsSound.and kept_captureSound).congr fun rd => ?_).step hs ht
    exact and_assoc
  case counts =>
    refine ((kept_timingSound.and kept_logSound).congr fun rd => ?_).step hs ht
    constructor
    · rintro ⟨⟨hstart, ⟨hframe, hglitch, hrejected⟩, h0, h1⟩, hun, htotal, hfirst, hnext⟩
      exact ⟨hstart, hframe, hglitch, hrejected, hun, htotal, hfirst, hnext, h0, h1⟩
    · rintro ⟨hstart, hframe, hglitch, hrejected, hun, htotal, hfirst, hnext, h0, h1⟩
      exact ⟨⟨hstart, ⟨hframe, hglitch, hrejected⟩, h0, h1⟩, hun, htotal, hfirst, hnext⟩

end Sys2Proof.Machine
end

section
/-! The lists in order and capacity, idle readers empty, and the detectors as their rules bound them (R10, R19, R25, R40, R43,
R63, R91, R101). -/

namespace Sys2Proof.Machine

/-! ## What an event leaves of the state and the lists -/

theorem SmallChange.state {rd x : Reader} (h : SmallChange rd x) : x.state = rd.state := by
  cases h with
  | apply => exact rd.state_applied
  | hissBlock l => cases l <;> rfl
  | _ => rfl

theorem SmallChanges.state {a b : Reader} (h : SmallChanges a b) : b.state = a.state := by
  induction h with
  | refl => rfl
  | tail _ hab ih => exact hab.state.trans ih

/-- A started reader stays started. -/
theorem Runs.started {rd base x rd' : Reader} (h : Runs rd base x rd') (hstarted : rd.started = true) : rd'.started = true := by
  have hstate : rd'.state = base.state := (congrArg Reader.state h.still).trans h.course.changes.state
  unfold Reader.started at hstarted ⊢
  rw [hstate]
  rcases h.course.base with rfl | rfl
  · exact hstarted
  · rw [Reader.state_armedStart]

theorem scheduleAfter_sublist (c : Nat) (lost : Bool) (schedule : List SpliceEntry) :
    (scheduleAfter c lost schedule).Sublist schedule := by
  have hdrop : (schedule.dropWhile fun x => decide (x.due < c)).Sublist schedule := List.dropWhile_sublist _
  unfold scheduleAfter
  split
  · exact List.nil_sublist _
  · rename_i x rest hrest
    rw [hrest] at hdrop
    split
    · exact (List.sublist_cons_self x rest).trans hdrop
    · exact hdrop

theorem Reader.lists_applied (rd : Reader) : rd.applied.schedule = rd.schedule ∧ rd.applied.exclusions = rd.exclusions :=
  ⟨(congrArg Reader.schedule rd.besideFrame_applied :), (congrArg Reader.exclusions rd.besideFrame_applied :)⟩

/-! ## The table -/

def Reader.TableSound (rd : Reader) : Prop := Machine.TableSound rd.table

theorem Reader.TableSound.act {rd x : Reader} (h : rd.TableSound) (hx : TableAct rd x) : x.TableSound := by
  cases hx with
  | record k d complete hk => exact Machine.TableSound.set h hk rfl
  | refuse k d hk => exact Machine.TableSound.set h hk rfl
  | table t ht => exact ht h
  | detector l => cases l <;> exact h
  | _ => exact h

theorem Reader.TableSound.of_moving {a b : Reader} (hab : a.moving = b.moving) (h : a.TableSound) : b.TableSound := by
  have htable : a.table = b.table := congrArg Moving.table hab
  exact show Machine.TableSound b.table from htable ▸ (show Machine.TableSound a.table from h)

theorem tableSound_nil : Machine.TableSound [] := ⟨Nat.zero_le _, List.Pairwise.nil⟩

theorem kept_tableSound : Kept Reader.TableSound := by
  refine kept_of_moving Reader.TableSound.of_moving
    ⟨fun h hf => ?_, fun _ _ h => h, fun h => h, fun _ => tableSound_nil, tableSound_nil⟩ Reader.TableSound.act
  cases hf with
  | enterBypass => exact Machine.TableSound.sublist h List.filter_sublist
  | _ => exact h

/-! ## The schedule and the exclusion list -/

def ScheduleSound (t : List SpliceEntry) : Prop := t.length ≤ 16 ∧ t.Pairwise fun x y => x.due < y.due

def ExclusionsSound (t : List FrameRange) : Prop :=
  t.length ≤ 8 ∧ (∀ x ∈ t, x.first ≤ x.last) ∧ t.Pairwise fun x y => x.last < y.first

theorem ScheduleSound.sublist {t u : List SpliceEntry} (h : ScheduleSound t) (hu : u.Sublist t) : ScheduleSound u :=
  ⟨hu.length_le.trans h.1, h.2.sublist hu⟩

theorem ExclusionsSound.sublist {t u : List FrameRange} (h : ExclusionsSound t) (hu : u.Sublist t) : ExclusionsSound u :=
  ⟨hu.length_le.trans h.1, fun x hx => h.2.1 x (hu.subset hx), h.2.2.sublist hu⟩

theorem ScheduleSound.insert {t : List SpliceEntry} (h : ScheduleSound t) {x : SpliceEntry} (hnew : ∀ y ∈ t, y.due ≠ x.due)
    (hlen : t.length < 16) : ScheduleSound (insertSplice t x) :=
  ⟨(insertSplice_perm t x).length_eq.trans_le hlen, insertSplice_sorted hnew h.2⟩

theorem ExclusionsSound.insert {t : List FrameRange} (h : ExclusionsSound t) {x : FrameRange} (hx : x.first ≤ x.last)
    (hnew : ∀ y ∈ t, ¬ (y.first ≤ x.last ∧ x.first ≤ y.last)) (hlen : t.length < 8) : ExclusionsSound (insertRange t x) := by
  refine ⟨(insertRange_perm t x).length_eq.trans_le hlen, fun y hy => ?_, insertRange_apart hx hnew h.2.1 h.2.2⟩
  rcases List.mem_cons.mp ((insertRange_perm t x).mem_iff.mp hy) with rfl | hy
  · exact hx
  · exact h.2.1 y hy

def Reader.PlansSound (rd : Reader) : Prop := ScheduleSound rd.schedule ∧ ExclusionsSound rd.exclusions

theorem Reader.PlansSound.small {rd x : Reader} (h : rd.PlansSound) (hx : SmallChange rd x) : x.PlansSound := by
  cases hx with
  | schedule => exact ⟨h.1.sublist (scheduleAfter_sublist _ _ _), h.2⟩
  | expire => exact ⟨h.1, h.2.sublist List.filter_sublist⟩
  | apply =>
    obtain ⟨hschedule, hexclusions⟩ := rd.lists_applied
    unfold Reader.PlansSound
    rw [hschedule, hexclusions]
    exact h
  | hissBlock l => cases l <;> exact h
  | _ => exact h

theorem Reader.PlansSound.of_still {a b : Reader} (hab : a.still = b.still) (h : a.PlansSound) : b.PlansSound :=
  show b.still.PlansSound from hab ▸ (show a.still.PlansSound from h)

theorem plansSound_nil : ScheduleSound [] ∧ ExclusionsSound [] :=
  ⟨⟨Nat.zero_le _, List.Pairwise.nil⟩, Nat.zero_le _, nofun, List.Pairwise.nil⟩

theorem kept_plansSound : Kept Reader.PlansSound := by
  refine kept_of_still Reader.PlansSound.of_still
    ⟨fun h hf => ?_, fun _ _ h => h, fun h => h, fun _ => plansSound_nil, plansSound_nil⟩ Reader.PlansSound.small
  cases hf with
  | splice y _ hnew hlen => exact ⟨h.1.insert hnew hlen, h.2⟩
  | unsplice => exact ⟨h.1.sublist List.filter_sublist, h.2⟩
  | range y _ hy hnew hlen => exact ⟨h.1, h.2.insert hy hnew hlen⟩
  | unrange => exact ⟨h.1, h.2.sublist List.filter_sublist⟩
  | _ => exact h

/-! ## Idle readers -/

/-- What a reader that is not started keeps beside its table, and one whose clock is lost sends. -/
def Reader.RestSound (rd : Reader) : Prop :=
  (rd.state = .stopped → rd.schedule = [] ∧ rd.exclusions = []) ∧
    (rd.state = .stopped ∨ rd.state = .armed → rd.monitor.state = .absent) ∧ (rd.clockLost = true → rd.output = none)

theorem Reader.not_idle_of_started {rd : Reader} (h : rd.started = true) : ¬ (rd.state = .stopped ∨ rd.state = .armed) := by
  rcases Reader.started_iff.mp h with h | h <;> rw [h] <;> decide

theorem Reader.RestSound.small {rd x : Reader} (h : rd.RestSound) (hx : SmallChange rd x) : x.RestSound := by
  obtain ⟨hplans, habsent, hsilent⟩ := h
  cases hx with
  | idle _ _ hclock | running _ _ hclock | bypassed _ _ hclock =>
    exact ⟨hplans, habsent, fun hlost => absurd (hclock.symm.trans hlost) nofun⟩
  | pulse hstarted | holdover hstarted | tick hstarted | free hstarted =>
    exact ⟨hplans, fun hidle => absurd hidle (Reader.not_idle_of_started hstarted), hsilent⟩
  | apply =>
    obtain ⟨hschedule, hexclusions⟩ := rd.lists_applied
    have hclock : rd.applied.clockLost = rd.clockLost := (congrArg Reader.clockLost rd.besideFrame_applied :)
    have houtput : rd.applied.output = rd.output := (congrArg Reader.output rd.besideFrame_applied :)
    have hmonitor : rd.applied.monitor.state = rd.monitor.state := by rw [Reader.monitor_applied]; rfl
    unfold Reader.RestSound
    rw [rd.state_applied, hschedule, hexclusions, hmonitor, hclock, houtput]
    exact ⟨hplans, habsent, hsilent⟩
  | schedule =>
    refine ⟨fun hstopped => ?_, habsent, hsilent⟩
    obtain ⟨hschedule, hexclusions⟩ := hplans hstopped
    exact ⟨List.sublist_nil.mp (hschedule ▸ scheduleAfter_sublist _ _ _), hexclusions⟩
  | expire =>
    refine ⟨fun hstopped => ?_, habsent, hsilent⟩
    obtain ⟨hschedule, hexclusions⟩ := hplans hstopped
    exact ⟨hschedule, List.sublist_nil.mp (hexclusions ▸ List.filter_sublist)⟩
  | loseClock => exact ⟨hplans, habsent, fun _ => rfl⟩
  | regainClock => exact ⟨hplans, habsent, nofun⟩
  | hissBlock l => cases l <;> exact ⟨hplans, habsent, hsilent⟩
  | _ => exact ⟨hplans, habsent, hsilent⟩

theorem Reader.RestSound.of_still {a b : Reader} (hab : a.still = b.still) (h : a.RestSound) : b.RestSound :=
  show b.still.RestSound from hab ▸ (show a.still.RestSound from h)

theorem Reader.RestSound.request {rd : Reader} {f : Reader → Reader} (h : rd.RestSound) (hf : RequestAct rd f) : (f rd).RestSound := by
  obtain ⟨hplans, habsent, hsilent⟩ := h
  cases hf with
  | arm _ _ hstopped => exact ⟨nofun, fun _ => habsent (.inl hstopped), hsilent⟩
  | enterBypass | leaveBypass => exact ⟨nofun, fun hidle => hidle.elim nofun nofun, hsilent⟩
  | splice y hs => exact ⟨fun hstopped => absurd hstopped hs, habsent, hsilent⟩
  | range y hs => exact ⟨fun hstopped => absurd hstopped hs, habsent, hsilent⟩
  | unsplice p =>
    refine ⟨fun hstopped => ?_, habsent, hsilent⟩
    obtain ⟨hschedule, hexclusions⟩ := hplans hstopped
    exact ⟨(congrArg (List.filter p) hschedule :), hexclusions⟩
  | unrange p =>
    refine ⟨fun hstopped => ?_, habsent, hsilent⟩
    obtain ⟨hschedule, hexclusions⟩ := hplans hstopped
    exact ⟨hschedule, (congrArg (List.filter p) hexclusions :)⟩
  | _ => exact ⟨hplans, habsent, hsilent⟩

theorem kept_restSound : Kept Reader.RestSound :=
  kept_of_still Reader.RestSound.of_still
    ⟨Reader.RestSound.request, fun _ _ h => h, fun h => ⟨nofun, fun hidle => hidle.elim nofun nofun, h.2.2⟩,
      fun h => ⟨fun _ => ⟨rfl, rfl⟩, fun _ => rfl, h.2.2⟩, ⟨fun _ => ⟨rfl, rfl⟩, fun _ => rfl, nofun⟩⟩
    Reader.RestSound.small

/-- No reader that is not started holds a defect (R63). -/
def Reader.IdleEmpty (rd : Reader) : Prop := rd.state = .stopped ∨ rd.state = .armed → rd.table = []

theorem kept_idleEmpty : Kept Reader.IdleEmpty where
  calm := by
    intro a b hab h hidle
    have hstate : a.state = b.state := (congrArg Reader.state hab :)
    have htable : a.table = b.table := (congrArg Reader.table hab :)
    rw [← htable]
    exact h (hstate ▸ hidle)
  request := by
    intro rd f h hf
    cases hf with
    | arm _ _ hstopped => exact fun _ => h (.inl hstopped)
    | enterBypass | leaveBypass => exact fun hidle => hidle.elim nofun nofun
    | _ => exact h
  start _ _ _ := fun hidle => hidle.elim nofun nofun
  stop _ := fun _ => rfl
  reset := fun _ => rfl
  runs := by
    intro rd base x rd' h hruns hidle
    rcases hruns.rests with hstarted | hrunning | hsame
    · exact absurd hidle (Reader.not_idle_of_started (hruns.started hstarted))
    · rw [hrunning] at hidle
      exact hidle.elim nofun nofun
    · have htable : rd'.table = rd.table := congrArg Moving.table hsame
      have hnot : rd.started = false := by
        by_contra hstarted
        exact Reader.not_idle_of_started (hruns.started (Bool.not_eq_false _ ▸ hstarted)) hidle
      rw [htable]
      refine h ?_
      cases hstate : rd.state with
      | stopped => exact .inl rfl
      | armed => exact .inr rfl
      | running | bypassed =>
        unfold Reader.started at hnot
        rw [hstate] at hnot
        exact absurd hnot nofun

/-! ## Detectors -/

def Reader.DetectorsSound (rd : Reader) : Prop := rd.lane0.detector.Sound ∧ rd.lane1.detector.Sound

theorem Reader.DetectorsSound.act {rd x : Reader} (h : rd.DetectorsSound) (hx : TableAct rd x) : x.DetectorsSound := by
  cases hx with
  | detector l f hf =>
    cases l with
    | lane0 => exact ⟨hf h.1, h.2⟩
    | lane1 => exact ⟨h.1, hf h.2⟩
  | _ => exact h

theorem Reader.DetectorsSound.of_moving {a b : Reader} (hab : a.moving = b.moving) (h : a.DetectorsSound) : b.DetectorsSound := by
  have h0 : a.lane0.detector = b.lane0.detector := congrArg Moving.detector0 hab
  have h1 : a.lane1.detector = b.lane1.detector := congrArg Moving.detector1 hab
  exact ⟨h0 ▸ h.1, h1 ▸ h.2⟩

theorem Detector.sound_start : Detector.start.Sound := ⟨le_rfl, by decide, Nat.zero_le _, by decide⟩

theorem LaneState.sound_resumeDetector (ln : LaneState) (n : Nat) : (ln.resumeDetector n).detector.Sound :=
  ⟨le_rfl, by simp [LaneState.resumeDetector], Nat.min_le_right _ _, by simp [LaneState.resumeDetector, Detector.idle]⟩

theorem kept_detectorsSound : Kept Reader.DetectorsSound := by
  refine kept_of_moving Reader.DetectorsSound.of_moving
    ⟨fun h hf => ?_, fun _ _ h => h, fun _ => ⟨Detector.sound_start, Detector.sound_start⟩,
      fun h => ⟨Detector.idle_sound h.1, Detector.idle_sound h.2⟩, Detector.sound_start, Detector.sound_start⟩
    Reader.DetectorsSound.act
  cases hf with
  | enterBypass => exact ⟨Detector.idle_sound h.1, Detector.idle_sound h.2⟩
  | leaveBypass => exact ⟨LaneState.sound_resumeDetector _ _, LaneState.sound_resumeDetector _ _⟩
  | _ => exact h

/-- Settles O10: the table and the detectors move in the table's acts, the lists and the idle readers beside them. -/
theorem everyStepKeepsListsIdleReadersAndDetectors : Obligations.EveryStepKeepsListsIdleReadersAndDetectors := by
  unfold Obligations.EveryStepKeepsListsIdleReadersAndDetectors
  refine ⟨fun s t hs ht => ?lists, fun s t hs ht => ?idle, fun s t hs ht => kept_detectorsSound.step hs ht⟩
  case lists =>
    refine ((kept_tableSound.and kept_plansSound).congr fun rd => ?_).step hs ht
    constructor
    · rintro ⟨⟨htable, hspans⟩, ⟨hschedule, hdue⟩, hranges, horder, happart⟩
      exact ⟨htable, hspans, hschedule, hdue, hranges, horder, happart⟩
    · rintro ⟨htable, hspans, hschedule, hdue, hranges, horder, happart⟩
      exact ⟨⟨htable, hspans⟩, ⟨hschedule, hdue⟩, hranges, horder, happart⟩
  case idle =>
    refine ((kept_restSound.and kept_idleEmpty).congr fun rd => ?_).step hs ht
    constructor
    · rintro ⟨⟨hplans, habsent, hsilent⟩, hempty⟩
      exact ⟨hplans, fun hidle => ⟨hempty hidle, habsent hidle⟩, hsilent⟩
    · rintro ⟨hplans, hidle, hsilent⟩
      exact ⟨⟨hplans, fun h => (hidle h).2, hsilent⟩, fun h => (hidle h).1⟩

end Sys2Proof.Machine
end

section
/-! The slot roles, the field ranges and the hiss step (R133, R137, R138, R141, R147). -/

namespace Sys2Proof.Machine

/-! ## Roles -/

/-- The slot that is ACTIVE, the one that is EDIT, and the third one (R137). -/
def Params.Placed (p : Params) (ac ed th : SlotId) : Prop :=
  (ac ≠ ed ∧ ac ≠ th ∧ ed ≠ th) ∧ (p.slot ac).role = .active ∧ (p.slot ed).role = .edit ∧
    ((p.slot th).role = .staged ∨ (p.slot th).role = .spare)

theorem SlotId.perm {ac ed th : SlotId} (h : ac ≠ ed ∧ ac ≠ th ∧ ed ≠ th) : [SlotId.slot0, .slot1, .slot2].Perm [ac, ed, th] := by
  revert h
  cases ac <;> cases ed <;> cases th <;> decide

theorem Params.roles_perm (p : Params) {ac ed th : SlotId} (h : ac ≠ ed ∧ ac ≠ th ∧ ed ≠ th) :
    p.roles.Perm [(p.slot ac).role, (p.slot ed).role, (p.slot th).role] :=
  (SlotId.perm h).map fun i => (p.slot i).role

theorem Params.Placed.sound {p : Params} {ac ed th : SlotId} (h : p.Placed ac ed th)
    (hsync : p.syncPending = true → (p.slot th).role = .staged) : p.RolesSound := by
  obtain ⟨hne, hac, hed, hth⟩ := h
  have hcount : ∀ x : Role, p.roles.count x = [Role.active, .edit, (p.slot th).role].count x := by
    intro x
    rw [← hac, ← hed]
    exact (p.roles_perm hne).count_eq x
  unfold Params.RolesSound
  simp only [hcount]
  rcases hth with hth | hth
  · rw [hth]
    exact ⟨by decide, by decide, by decide, fun _ => by decide⟩
  · rw [hth] at hsync ⊢
    exact ⟨by decide, by decide, by decide, fun h => absurd (hsync h) nofun⟩

/-- Two slots leave a third. -/
theorem SlotId.exists_third : ∀ a b : SlotId, ∃ c : SlotId, a ≠ c ∧ b ≠ c
  | .slot0, .slot0 | .slot0, .slot2 | .slot2, .slot0 | .slot2, .slot2 => ⟨.slot1, by decide, by decide⟩
  | .slot0, .slot1 | .slot1, .slot0 | .slot1, .slot1 => ⟨.slot2, by decide, by decide⟩
  | .slot1, .slot2 | .slot2, .slot1 => ⟨.slot0, by decide, by decide⟩

theorem Params.RolesSound.placed {p : Params} (h : p.RolesSound) : ∃ ac ed th, p.Placed ac ed th := by
  obtain ⟨ac, hac⟩ := Params.exists_holder_active h
  obtain ⟨ed, hed⟩ := Option.isSome_iff_exists.mp
    (Params.holder_isSome_iff.mpr (List.count_pos_iff.mp (by rw [h.2.1]; exact Nat.one_pos)) : (p.holder .edit).isSome = true)
  have hacRole := Params.role_of_holder hac
  have hedRole := Params.role_of_holder hed
  obtain ⟨th, hth, hth'⟩ := SlotId.exists_third ac ed
  have hne : ac ≠ ed := by
    rintro rfl
    exact absurd (hacRole.symm.trans hedRole) nofun
  refine ⟨ac, ed, th, ⟨hne, hth, hth'⟩, hacRole, hedRole, ?_⟩
  cases hrole : (p.slot th).role with
  | active => exact absurd (Params.slot_unique h.1 hacRole hrole) hth
  | edit => exact absurd (Params.slot_unique h.2.1 hedRole hrole) hth'
  | staged => exact .inl rfl
  | spare => exact .inr rfl

theorem Params.setOf_of_holder {p : Params} {role : Role} {i : SlotId} (h : p.holder role = some i) : p.setOf role = (p.slot i).set := by
  rw [Params.setOf, h]
  rfl

theorem Params.Placed.active {p : Params} {ac ed th : SlotId} (h : p.Placed ac ed th) (hroles : p.RolesSound) :
    p.setOf .active = (p.slot ac).set :=
  Params.setOf_of_holder (Params.holder_of_count hroles.1 h.2.1)

/-- SETC leaves the ACTIVE slot, and puts the EDIT contents on both others (R144, R145). -/
theorem Params.commit_sound {p : Params} (h : p.RolesSound) {edit third : SlotId} (he : p.holder .edit = some edit)
    (ht : p.third = some third) :
    (p.commit edit third).RolesSound ∧ (p.commit edit third).setOf .active = p.setOf .active ∧
      ∀ i, ((p.commit edit third).slot i).set = (p.slot i).set ∨ ((p.commit edit third).slot i).set = (p.slot edit).set := by
  obtain ⟨ac, hac⟩ := Params.exists_holder_active h
  have hacRole := Params.role_of_holder hac
  have hedRole := Params.role_of_holder he
  have hthRole : (p.slot third).role = .staged ∨ (p.slot third).role = .spare := by
    unfold Params.third at ht
    split at ht
    · cases ht
      exact .inl (Params.role_of_holder ‹_›)
    · exact .inr (Params.role_of_holder ht)
  have hne : ∀ {i j : SlotId} {x y : Role}, (p.slot i).role = x → (p.slot j).role = y → x ≠ y → i ≠ j := by
    rintro i j x y hi hj hxy rfl
    exact hxy (hi.symm.trans hj)
  have hace : ac ≠ edit := hne hacRole hedRole nofun
  have hact : ac ≠ third := hthRole.elim (fun h => hne hacRole h nofun) fun h => hne hacRole h nofun
  have hedt : edit ≠ third := hthRole.elim (fun h => hne hedRole h nofun) fun h => hne hedRole h nofun
  have hslotAc : (p.commit edit third).slot ac = p.slot ac := by
    rw [Params.commit, Params.slot_onSlot_of_ne _ _ _ _ hact, Params.slot_onSlot_of_ne _ _ _ _ hace]
  have hslotEd : (p.commit edit third).slot edit = { p.slot edit with role := .staged } := by
    rw [Params.commit, Params.slot_onSlot_of_ne _ _ _ _ hedt, Params.slot_onSlot_self]
  have hslotTh : (p.commit edit third).slot third = { role := .edit, set := (p.slot edit).set } := by
    rw [Params.commit, Params.slot_onSlot_self]
  have hplaced : (p.commit edit third).Placed ac third edit :=
    ⟨⟨hact, hace, hedt.symm⟩, by rw [hslotAc, hacRole], by rw [hslotTh], .inl (by rw [hslotEd])⟩
  have hroles : (p.commit edit third).RolesSound := hplaced.sound fun _ => by rw [hslotEd]
  refine ⟨hroles, ?_, fun i => ?_⟩
  · rw [hplaced.active hroles, hslotAc, Params.setOf_of_holder hac]
  · by_cases hi : i = third
    · exact .inr (by rw [hi, hslotTh])
    · by_cases hi' : i = edit
      · exact .inl (by rw [hi', hslotEd])
      · exact .inl (by rw [Params.commit, Params.slot_onSlot_of_ne _ _ _ _ hi, Params.slot_onSlot_of_ne _ _ _ _ hi'])

/-- SETW leaves the roles and the ACTIVE set, and writes the EDIT set (R141). -/
theorem Params.writeEdit_sound {p : Params} (h : p.RolesSound) (ws : List FieldWrite) :
    (p.writeEdit ws).RolesSound ∧ (p.writeEdit ws).setOf .active = p.setOf .active ∧
      ∀ i, ((p.writeEdit ws).slot i).set = (p.slot i).set ∨ ((p.writeEdit ws).slot i).set = (p.slot i).set.writeAll ws := by
  unfold Params.writeEdit
  cases hed : p.holder .edit with
  | none => exact ⟨h, rfl, fun _ => .inl rfl⟩
  | some ed =>
    dsimp only
    have hslot : ∀ i, ((p.onSlot ed fun x => { x with set := x.set.writeAll ws }).slot i).role = (p.slot i).role := by
      intro i
      by_cases hi : i = ed
      · rw [hi, Params.slot_onSlot_self]
      · rw [Params.slot_onSlot_of_ne _ _ _ _ hi]
    have hroles : (p.onSlot ed fun x => { x with set := x.set.writeAll ws }).roles = p.roles := by
      have h0 := hslot .slot0
      have h1 := hslot .slot1
      have h2 := hslot .slot2
      unfold Params.roles
      simp only [Params.slot] at h0 h1 h2
      rw [h0, h1, h2]
    obtain ⟨ac, hac⟩ := Params.exists_holder_active h
    have hne : ac ≠ ed := by
      rintro rfl
      exact absurd ((Params.role_of_holder hac).symm.trans (Params.role_of_holder hed)) nofun
    have hsound : (p.onSlot ed fun x => { x with set := x.set.writeAll ws }).RolesSound := by
      unfold Params.RolesSound at h ⊢
      rw [hroles, Params.onSlot_syncPending]
      exact h
    have hholder : (p.onSlot ed fun x => { x with set := x.set.writeAll ws }).holder .active = some ac :=
      Params.holder_of_count hsound.1 ((hslot ac).trans (Params.role_of_holder hac))
    refine ⟨hsound, ?_, fun i => ?_⟩
    · rw [Params.setOf_of_holder hholder, Params.setOf_of_holder hac, Params.slot_onSlot_of_ne _ _ _ _ hne]
    · by_cases hi : i = ed
      · exact .inr (by rw [hi, Params.slot_onSlot_self])
      · exact .inl (by rw [Params.slot_onSlot_of_ne _ _ _ _ hi])

/-- An apply keeps the roles sound and every set (R150). -/
theorem Params.rotate_sound {p : Params} (h : p.RolesSound) :
    p.rotate.RolesSound ∧ ∀ i, (p.rotate.slot i).set = (p.slot i).set := by
  cases hst : p.holder .staged with
  | none =>
    rw [Params.rotate_of_none hst]
    exact ⟨h, fun _ => rfl⟩
  | some st =>
    obtain ⟨ac, ed, th, hne, hac, hed, hth⟩ := h.placed
    obtain ⟨hstaged, _⟩ := Params.staged_count h hst
    have hthst : th = st := by
      refine hth.elim (fun hrole => Params.slot_unique hstaged hrole (Params.role_of_holder hst)) fun hrole => ?_
      have := Params.count_pos hrole
      have := (Params.staged_count h hst).2
      omega
    refine ⟨Params.Placed.sound (ac := th) (ed := ed) (th := ac) ⟨⟨hne.2.2.symm, hne.2.1.symm, hne.1.symm⟩, ?_, ?_, .inr ?_⟩ ?_, ?_⟩
    · rw [Params.slot_rotate h hst, hthst, Params.role_of_holder hst]
      rfl
    · rw [Params.slot_rotate h hst, hed]
      rfl
    · rw [Params.slot_rotate h hst, hac]
      rfl
    · rw [Params.syncPending_rotate h hst]
      nofun
    · intro i
      rw [Params.slot_rotate h hst]

/-! ## Field ranges -/

theorem Params.fieldsSound_iff {p : Params} : p.FieldsSound ↔ ∀ i, (p.slot i).set.inRange = true :=
  ⟨fun ⟨h0, h1, h2⟩ i => by cases i <;> assumption, fun h => ⟨h .slot0, h .slot1, h .slot2⟩⟩

theorem ParamSet.inRange_iff {p : ParamSet} :
    p.inRange = true ↔ ∀ id ∈ fieldIds, ∀ k, fieldKind id = some k → k.admits (p.get id) = true := by
  unfold ParamSet.inRange
  rw [List.all_eq_true]
  refine forall₂_congr fun id _ => ?_
  cases fieldKind id with
  | none => simp
  | some k => simp

/-- A valid write keeps every field in its range (R139, R141). -/
theorem ParamSet.inRange_write {p : ParamSet} (h : p.inRange = true) {w : FieldWrite} (hw : writeValid w = true) :
    (p.write w).inRange = true := by
  obtain ⟨k, hk, hv⟩ := writtenValue_admitted hw
  rw [ParamSet.inRange_iff] at h ⊢
  intro id hid k' hk'
  rw [ParamSet.write, p.get_put id hk hv]
  split
  · rename_i heq
    rw [heq, hk] at hk'
    cases hk'
    exact hv
  · exact h id hid k' hk'

theorem ParamSet.inRange_writeAll {ws : List FieldWrite} (hws : ∀ w ∈ ws, writeValid w = true) {p : ParamSet} (h : p.inRange = true) :
    (p.writeAll ws).inRange = true := by
  induction ws generalizing p with
  | nil => exact h
  | cons w ws ih =>
    obtain ⟨hw, hws'⟩ := List.forall_mem_cons.mp hws
    exact ih hws' (ParamSet.inRange_write h hw)

theorem ParamSet.minStep_le {p : ParamSet} (h : p.inRange = true) : p.minStep ≤ 31 := by
  have hid : 22 ∈ fieldIds := by decide
  have hadmits := ParamSet.inRange_iff.mp h 22 hid (.numeric 0 31) rfl
  have hget : p.get 22 = p.minStep := rfl
  rw [hget, FieldKind.admits, Bool.and_eq_true, decide_eq_true_eq, decide_eq_true_eq] at hadmits
  exact Int.ofNat_le.mp hadmits.2

theorem Params.FieldsSound.active {p : Params} (h : p.FieldsSound) : (p.setOf .active).inRange = true :=
  Params.fieldsSound_iff.mp h _

/-! ## The hiss step -/

theorem Hiss.sound_start {p : ParamSet} (h : p.minStep ≤ 31) : Hiss.start.Sound p :=
  ⟨h, le_rfl, Nat.zero_le _, fun _ => ⟨rfl, rfl, rfl⟩⟩

theorem stepAfter_bounds {p : ParamSet} {step : Nat} (hlow : p.minStep ≤ step) (hhigh : step ≤ 31) (level : Nat) :
    p.minStep ≤ stepAfter p step level ∧ stepAfter p step level ≤ 31 := by
  unfold stepAfter
  split <;> omega

theorem Hiss.Sound.completeBlock {h : Hiss} {p : ParamSet} (hs : h.Sound p) (hon : p.hissEnable = true) : (h.completeBlock p).Sound p := by
  obtain ⟨hlow, hhigh, _, _⟩ := hs
  obtain ⟨hlow', hhigh'⟩ := stepAfter_bounds hlow hhigh (h.blockSum / 64)
  exact ⟨hlow', hhigh', Nat.zero_le _, fun hoff => absurd (hon.symm.trans hoff) nofun⟩

/-- The filter's work keeps its step between s_min and 31 and its block below 64 (R128 to R130). -/
theorem Hiss.Sound.process {h : Hiss} {p : ParamSet} (hs : h.Sound p) (e : Sample) : (h.process p e).Sound p := by
  obtain ⟨hlow, hhigh, hcount, hoff⟩ := hs
  unfold Hiss.process
  split
  · rename_i hon
    have hoff' : p.hissEnable = false → False := fun h => absurd (hon.symm.trans h) nofun
    split
    · obtain ⟨hlow', hhigh'⟩ := stepAfter_bounds hlow hhigh ((h.take e).blockSum / 64)
      exact ⟨hlow', hhigh', Nat.zero_le _, fun h => (hoff' h).elim⟩
    · rename_i hdue
      refine ⟨hlow, hhigh, ?_, fun h => (hoff' h).elim⟩
      unfold Hiss.blockDue at hdue
      rw [decide_eq_true_eq, not_le] at hdue
      exact Nat.le_of_lt_succ hdue
  · exact ⟨hlow, hhigh, hcount, hoff⟩

/-- An apply keeps the step within the new set's bounds, and at 31 where the filter is off (R132, R133). -/
theorem Hiss.Sound.apply {h : Hiss} {old new : ParamSet} (hs : h.Sound old) (hmin : new.minStep ≤ 31) : (h.apply old new).Sound new := by
  obtain ⟨hlow, hhigh, hcount, hoff⟩ := hs
  unfold Hiss.apply
  split
  · rename_i hsame
    refine ⟨Nat.le_max_right _ _, Nat.max_le.mpr ⟨hhigh, hmin⟩, hcount, fun hnew => ?_⟩
    obtain ⟨hstep, hsum, hzero⟩ := hoff ((beq_iff_eq.mp hsame).trans hnew)
    exact ⟨by simp [hstep, hmin], hsum, hzero⟩
  · rename_i hother
    split
    · rename_i hon
      have hold : old.hissEnable = false := by
        cases hold : old.hissEnable with
        | false => rfl
        | true => exact absurd (by rw [hold, hon]; rfl) hother
      obtain ⟨hstep, _, _⟩ := hoff hold
      exact ⟨hstep ▸ hmin, hhigh, hcount, fun hno => absurd (hon.symm.trans hno) nofun⟩
    · exact ⟨hmin, le_rfl, Nat.zero_le _, fun _ => ⟨rfl, rfl, rfl⟩⟩

/-! ## The invariant -/

def Reader.SetsSound (rd : Reader) : Prop :=
  rd.params.RolesSound ∧ rd.params.FieldsSound ∧ rd.lane0.hiss.Sound rd.active ∧ rd.lane1.hiss.Sound rd.active

theorem LaneState.hiss_becomeStuck (ln : LaneState) (p : ParamSet) : (ln.becomeStuck p).hiss = ln.hiss := by
  unfold LaneState.becomeStuck
  split <;> rfl

theorem LaneState.hiss_processExit (ln : LaneState) (h : Hum) (p : ParamSet) (fallback : Bool) (x : Sample) :
    (ln.processExit h p fallback x).hiss = ln.hiss.process p (ln.residual h x) := by
  cases fallback <;> rfl

theorem Params.RolesSound.rotate_fields {p : Params} (h : p.RolesSound) (hf : p.FieldsSound) : p.rotate.FieldsSound := by
  rw [Params.fieldsSound_iff] at hf ⊢
  intro i
  rw [(Params.rotate_sound h).2 i]
  exact hf i

theorem Reader.SetsSound.small {rd x : Reader} (h : rd.SetsSound) (hx : SmallChange rd x) : x.SetsSound := by
  obtain ⟨hroles, hfields, h0, h1⟩ := h
  cases hx with
  | running c0 c1 =>
    refine ⟨hroles, hfields, ?_, ?_⟩
    · exact (LaneState.hiss_processExit rd.lane0 rd.hum rd.active _ _).symm ▸ h0.process _
    · exact (LaneState.hiss_processExit rd.lane1 rd.hum rd.active _ _).symm ▸ h1.process _
  | apply =>
    have hfields' := hroles.rotate_fields hfields
    have hmin : rd.applied.active.minStep ≤ 31 := ParamSet.minStep_le hfields'.active
    refine ⟨(Params.rotate_sound hroles).1, hfields', ?_, ?_⟩
    · exact (rd.hiss_applied .lane0).symm ▸ h0.apply hmin
    · exact (rd.hiss_applied .lane1).symm ▸ h1.apply hmin
  | stuck =>
    exact ⟨hroles, hfields, (LaneState.hiss_becomeStuck rd.lane0 _).symm ▸ h0, (LaneState.hiss_becomeStuck rd.lane1 _).symm ▸ h1⟩
  | hissBlock l hdue =>
    unfold Reader.hissBlockDue at hdue
    simp only [Bool.and_eq_true] at hdue
    obtain ⟨⟨_, hon⟩, _⟩ := hdue
    cases l with
    | lane0 => exact ⟨hroles, hfields, h0.completeBlock hon, h1⟩
    | lane1 => exact ⟨hroles, hfields, h0, h1.completeBlock hon⟩
  | _ => exact ⟨hroles, hfields, h0, h1⟩

theorem Reader.SetsSound.request {rd : Reader} {f : Reader → Reader} (h : rd.SetsSound) (hf : RequestAct rd f) : (f rd).SetsSound := by
  obtain ⟨hroles, hfields, h0, h1⟩ := h
  cases hf with
  | write ws hvalid =>
    obtain ⟨hroles', hactive, hsets⟩ := Params.writeEdit_sound hroles ws
    refine ⟨hroles', Params.fieldsSound_iff.mpr fun i => ?_, ?_, ?_⟩
    · have hi := Params.fieldsSound_iff.mp hfields i
      rcases hsets i with hset | hset
      · exact hset ▸ hi
      · exact hset ▸ ParamSet.inRange_writeAll hvalid hi
    · exact show Hiss.Sound _ (Params.setOf _ _) from hactive.symm ▸ h0
    · exact show Hiss.Sound _ (Params.setOf _ _) from hactive.symm ▸ h1
  | commit edit third he ht =>
    obtain ⟨hroles', hactive, hsets⟩ := Params.commit_sound hroles he ht
    refine ⟨hroles', Params.fieldsSound_iff.mpr fun i => ?_, ?_, ?_⟩
    · rcases hsets i with hset | hset
      · exact hset ▸ Params.fieldsSound_iff.mp hfields i
      · exact hset ▸ Params.fieldsSound_iff.mp hfields edit
    · exact show Hiss.Sound _ (Params.setOf _ _) from hactive.symm ▸ h0
    · exact show Hiss.Sound _ (Params.setOf _ _) from hactive.symm ▸ h1
  | sync hstaged =>
    obtain ⟨st, hst⟩ := Option.isSome_iff_exists.mp hstaged
    exact ⟨⟨hroles.1, hroles.2.1, hroles.2.2.1, fun _ => (Params.staged_count hroles hst).1⟩, hfields, h0, h1⟩
  | _ => exact ⟨hroles, hfields, h0, h1⟩

theorem kept_setsSound : Kept Reader.SetsSound := by
  refine kept_of_still (fun hab h => ?still) ⟨Reader.SetsSound.request, fun _ _ h => h, fun h => ?start, fun h => h, ?reset⟩
    Reader.SetsSound.small
  case still => exact show Reader.still _ |>.SetsSound from hab ▸ (show Reader.still _ |>.SetsSound from h)
  case start =>
    have hfields' := h.1.rotate_fields h.2.1
    have hmin := ParamSet.minStep_le hfields'.active
    exact ⟨(Params.rotate_sound h.1).1, hfields', Hiss.sound_start hmin, Hiss.sound_start hmin⟩
  case reset =>
    obtain ⟨_, _, hparams, _, _, _, _, hhiss, _⟩ := resetStateIsSound
    exact ⟨hparams.1.1, hparams.1.2, hhiss.1.1, hhiss.1.2⟩

/-- Settles O11: roles and sets move at requests, starts and applies, the hiss step also at the exits. -/
theorem everyStepKeepsSetsAndHissStep : Obligations.EveryStepKeepsSetsAndHissStep := by
  unfold Obligations.EveryStepKeepsSetsAndHissStep
  intro Inv s t hs ht
  exact kept_setsSound.step hs ht

end Sys2Proof.Machine
end

section
/-! The close of a run and the merge with the twin's entries (R50, R54, R55, R72). -/

namespace Sys2Proof.Machine

/-! ## The run's entry in the table -/

theorem findIdx_append_cons {α : Type} {p : α → Bool} {before after : List α} {d : α} (hbefore : ∀ y ∈ before, p y = false)
    (hd : p d = true) : (before ++ d :: after).findIdx p = before.length := by
  rw [List.findIdx_append, List.findIdx_eq_length_of_false hbefore, if_neg (Nat.lt_irrefl _), List.findIdx_cons, hd]
  simp

theorem getElem?_append_cons {α : Type} (before after : List α) (d : α) : (before ++ d :: after)[before.length]? = some d := by simp

theorem eraseIdx_append_cons {α : Type} (before after : List α) (d : α) :
    (before ++ d :: after).eraseIdx before.length = before ++ after := by simp [List.eraseIdx_append_of_length_le]

theorem set_append_cons {α : Type} (before after : List α) (d c : α) :
    (before ++ d :: after).set before.length c = before ++ c :: after := by simp

/-! ## The state behind a close -/

/-- The table replaced and the lane's detector IDLE. -/
def State.closedTo (s : State) (r : ReaderId) (l : Lane) (table : List Defect) : State :=
  (s.onReader r fun rd => { rd with table := table }).onReader r fun rd => rd.idleLane l

theorem State.onReader_idle_table (s : State) (r : ReaderId) (l : Lane) (table : List Defect) :
    ((s.onReader r fun x => x.idleLane l).onReader r fun x => { x with table := table }) = s.closedTo r l table := by
  unfold State.closedTo
  rw [State.onReader_onReader, State.onReader_onReader]
  refine State.onReader_congr ?_
  cases l <;> rfl

theorem State.rd_closedTo (s : State) (r : ReaderId) (l : Lane) (table : List Defect) :
    (s.closedTo r l table).rd r = ({ s.rd r with table := table } : Reader).idleLane l := by
  rw [State.closedTo, State.rd_onReader_self, State.rd_onReader_self]

/-- The close of the run whose entry stands between before and after: the merge, or the commit at once, or the wait. -/
theorem closeRun_eq {r : ReaderId} {l : Lane} {before after : List Defect} {d : Defect} {s : State} (finalEnd : Nat)
    (htable : (s.rd r).table = before ++ d :: after) (hrun : isRunOf l d = true) (hothers : ∀ y ∈ before ++ after, isRunOf l y = false) :
    let c := { d with spanEnd := finalEnd, state := .closed }
    let mates := (before ++ after).filter (mergesWith l c)
    let others := (before ++ after).filter fun x => !mergesWith l c x
    let m := (mergedEntry c mates).cutBehind l others
    let kept := s.closedTo r l (before ++ c :: after)
    closeRun r l finalEnd s =
      if !mates.isEmpty && mergeAllowed (s.rd r).active.lmax m others then s.closedTo r l (fileDefect others m)
      else if (kept.rd r).twinConditions c then commitWatched r before.length false kept else kept := by
  intro c mates others m kept
  have hindex : (s.rd r).table.findIdx (isRunOf l) = before.length := by
    rw [htable]
    exact findIdx_append_cons (fun y hy => hothers y (List.mem_append_left _ hy)) hrun
  have hget : (s.rd r).table[before.length]? = some d := by rw [htable, getElem?_append_cons]
  have herase : (s.rd r).table.eraseIdx before.length = before ++ after := by rw [htable, eraseIdx_append_cons]
  have hkept : ((s.onReader r fun x => x.idleLane l).onReader r fun x => x.setEntry before.length c) = kept := by
    refine Eq.trans ?_ (State.onReader_idle_table s r l (before ++ c :: after))
    rw [State.onReader_onReader, State.onReader_onReader]
    refine State.onReader_congr ?_
    have htable' : ((s.rd r).idleLane l).table = before ++ d :: after := (Reader.table_onLane _ _ _).trans htable
    unfold Reader.setEntry
    rw [htable', set_append_cons]
  unfold closeRun
  dsimp only
  rw [hindex, hget]
  dsimp only
  rw [herase, State.onReader_idle_table, hkept]

theorem mergesWith_eq (l : Lane) (c y : Defect) :
    mergesWith l c y = (y.state == .closed && y.kind == .click && y.lanes == .only (twinOf l) &&
      decide (y.spanStart ≤ c.spanEnd) && decide (c.spanStart ≤ y.spanEnd)) :=
  (Bool.and_assoc _ _ _).symm

theorem Defect.shares_iff {d : Defect} {lo hi : Nat} : d.shares lo hi = true ↔ d.spanStart ≤ hi ∧ lo ≤ d.spanEnd := by
  simp [Defect.shares]

theorem mergeAllowed_iff {lmax : Nat} {m : Defect} {others : List Defect} :
    mergeAllowed lmax m others = true ↔
      m.spanEnd + 1 - m.spanStart ≤ lmax ∧ ∀ y ∈ others, ¬ (y.spanStart ≤ m.spanEnd ∧ m.spanStart ≤ y.spanEnd) := by
  unfold mergeAllowed
  rw [Bool.and_eq_true, decide_eq_true_eq, Bool.not_eq_true', List.any_eq_false]
  simp only [Defect.shares_iff]
  rfl

/-- The twin conditions of a closing entry of one lane (R72). -/
theorem twinConditions_iff {rd : Reader} {l : Lane} {c : Defect} (hlanes : c.lanes = .only l) (hkind : c.kind = .click)
    (hstate : rd.state = .running) :
    rd.twinConditions c = true ↔ rd.laneMode = .twin ∧ (rd.lane (twinOf l)).stuck = false ∧
      (rd.lane (twinOf l)).markedIn rd.entered c.spanStart c.spanEnd = false ∧
      ∀ y ∈ rd.table, y.lanes.has (twinOf l) = true → ¬ (y.spanStart ≤ c.spanEnd ∧ c.spanStart ≤ y.spanEnd) := by
  unfold Reader.twinConditions
  rw [hlanes]
  simp only [Bool.and_eq_true, Bool.not_eq_true', beq_iff_eq, hstate, hkind, true_and, List.any_eq_false, and_assoc, Defect.shares_iff]
  simp

theorem LaneMask.has_twin (l : Lane) : (LaneMask.only l).has (twinOf l) = false := by cases l <;> rfl

/-- The twin conditions of the entry of a lane as its run has closed: the twin's lane stands, and the entry is not the twin's. -/
theorem Reader.twinConditions_closed {rd : Reader} {l : Lane} {before after : List Defect} {c : Defect} (hlanes : c.lanes = .only l)
    (hkind : c.kind = .click) (hstate : rd.state = .running) :
    (({ rd with table := before ++ c :: after } : Reader).idleLane l).twinConditions c = true ↔
      rd.laneMode = .twin ∧ (rd.lane (twinOf l)).stuck = false ∧
        (rd.lane (twinOf l)).markedIn rd.entered c.spanStart c.spanEnd = false ∧
        ∀ y ∈ before ++ after, y.lanes.has (twinOf l) = true → ¬ (y.spanStart ≤ c.spanEnd ∧ c.spanStart ≤ y.spanEnd) := by
  obtain ⟨rd', hrd'⟩ : ∃ x, x = ({ rd with table := before ++ c :: after } : Reader).idleLane l := ⟨_, rfl⟩
  have hrunning : rd'.state = .running := by rw [hrd']; cases l <;> exact hstate
  have hmode : rd'.laneMode = rd.laneMode := by rw [hrd']; cases l <;> rfl
  have hentered : rd'.entered = rd.entered := by rw [hrd']; cases l <;> rfl
  have htwin : rd'.lane (twinOf l) = rd.lane (twinOf l) := by rw [hrd']; cases l <;> rfl
  have htable : rd'.table = before ++ c :: after := by rw [hrd']; exact Reader.table_onLane _ _ _
  have hown : ¬ c.lanes.has (twinOf l) = true := by rw [hlanes, LaneMask.has_twin]; decide
  rw [← hrd', twinConditions_iff hlanes hkind hrunning, hmode, hentered, htwin, htable]
  simp [or_imp, forall_and, hown]

theorem isRunOf_iff {l : Lane} {d : Defect} : isRunOf l d = true ↔ d.kind = .click ∧ d.state = .opened ∧ d.lanes = .only l := by
  simp [isRunOf, and_assoc]

/-- The end of a command that RUN_CLOSE makes due. -/
theorem completes_runClose {r : ReaderId} {l : Lane} {s e : State} (hstate : (s.rd r).state = .running)
    (hclock : (s.rd r).clockLost = false) (happlied : (s.rd r).appliedSince = false) (hdue : (s.rd r).closeDue l = true)
    (h : Settles e (closeRunNow r l s)) : Completes (.runClose r l) s e := by
  have hacts : ((s.rd r).judgementsAct && (s.rd r).closeDue l) = true := by simp [Reader.judgementsAct, hstate, hclock, happlied, hdue]
  refine ⟨(runCloses r l s).arbitrate, ?_, (h.trans (State.evaluateWatches_settles _)).trans (State.arbitrate_settles _)⟩
  change Host.Outcome.next (if (s.rd r).judgementsAct && (s.rd r).closeDue l then runCloses r l s else s).arbitrate = _
  rw [if_pos hacts]

/-! ## The merged entry -/

/-- A fold by a choice of the one or the other: it is one of them, and stands before all of them. -/
theorem foldl_choice {α : Type} {R : α → α → Prop} (hrefl : ∀ x, R x x) (htrans : ∀ {x y z}, R x y → R y z → R x z) {op : α → α → α}
    (hleft : ∀ x y, R (op x y) x) (hright : ∀ x y, R (op x y) y) (hchoice : ∀ x y, op x y = x ∨ op x y = y) (f : Defect → α)
    (ds : List Defect) (a : α) :
    R (ds.foldl (fun x d => op x (f d)) a) a ∧ (∀ d ∈ ds, R (ds.foldl (fun x d => op x (f d)) a) (f d)) ∧
      (ds.foldl (fun x d => op x (f d)) a = a ∨ ∃ d ∈ ds, ds.foldl (fun x d => op x (f d)) a = f d) := by
  induction ds generalizing a with
  | nil => exact ⟨hrefl a, nofun, .inl rfl⟩
  | cons d ds ih =>
    obtain ⟨hfirst, hall, hone⟩ := ih (op a (f d))
    refine ⟨htrans hfirst (hleft _ _), List.forall_mem_cons.mpr ⟨htrans hfirst (hright _ _), hall⟩, ?_⟩
    rcases hone with hone | ⟨y, hy, hone⟩
    · rcases hchoice a (f d) with h | h
      · exact .inl (hone.trans h)
      · exact .inr ⟨d, List.mem_cons_self, hone.trans h⟩
    · exact .inr ⟨y, List.mem_cons_of_mem _ hy, hone⟩

theorem exists_mem_cons_of_choice {α : Type} {f : Defect → α} {c : Defect} {mates : List Defect} {x : α}
    (h : x = f c ∨ ∃ d ∈ mates, x = f d) : ∃ d ∈ c :: mates, x = f d := by
  rcases h with h | ⟨d, hd, h⟩
  · exact ⟨c, List.mem_cons_self, h⟩
  · exact ⟨d, List.mem_cons_of_mem _ hd, h⟩

/-- What a closing entry and its mates become (R54). -/
theorem mergedEntry_spec (c : Defect) (mates : List Defect) :
    let m := mergedEntry c mates
    m.lanes = .both ∧ m.state = .closed ∧ m.kind = c.kind ∧
      (∀ d ∈ c :: mates, m.spanStart ≤ d.spanStart ∧ d.spanEnd ≤ m.spanEnd ∧ d.peak ≤ m.peak ∧ (d.cut = true → m.cut = true)) ∧
      (∃ d ∈ c :: mates, m.spanStart = d.spanStart) ∧ (∃ d ∈ c :: mates, m.spanEnd = d.spanEnd) ∧
      (∃ d ∈ c :: mates, m.peak = d.peak) ∧ (m.cut = true → ∃ d ∈ c :: mates, d.cut = true) := by
  intro m
  obtain ⟨hstart, hstarts, hstart'⟩ := foldl_choice (R := fun x y : Nat => x ≤ y) (fun _ => le_rfl) (fun h h' => le_trans h h')
    (op := min) (fun _ _ => Nat.min_le_left _ _) (fun _ _ => Nat.min_le_right _ _) min_choice Defect.spanStart mates c.spanStart
  obtain ⟨hend, hends, hend'⟩ := foldl_choice (R := fun x y : Nat => y ≤ x) (fun _ => le_rfl) (fun h h' => le_trans h' h)
    (op := max) (fun _ _ => Nat.le_max_left _ _) (fun _ _ => Nat.le_max_right _ _) max_choice Defect.spanEnd mates c.spanEnd
  obtain ⟨hpeak, hpeaks, hpeak'⟩ := foldl_choice (R := fun x y : Nat => y ≤ x) (fun _ => le_rfl) (fun h h' => le_trans h' h)
    (op := max) (fun _ _ => Nat.le_max_left _ _) (fun _ _ => Nat.le_max_right _ _) max_choice Defect.peak mates c.peak
  obtain ⟨hcut, hcuts, hcut'⟩ := foldl_choice (R := fun x y : Bool => y = true → x = true) (fun _ => id) (fun h h' => h ∘ h')
    (op := or) (by decide) (by decide) (by decide) Defect.cut mates c.cut
  refine ⟨rfl, rfl, rfl, ?_, exists_mem_cons_of_choice hstart', exists_mem_cons_of_choice hend', exists_mem_cons_of_choice hpeak',
    fun hm => ?_⟩
  · exact List.forall_mem_cons.mpr ⟨⟨hstart, hend, hpeak, hcut⟩, fun d hd => ⟨hstarts d hd, hends d hd, hpeaks d hd, hcuts d hd⟩⟩
  · obtain ⟨d, hd, heq⟩ := exists_mem_cons_of_choice hcut'
    exact ⟨d, hd, heq.symm.trans hm⟩

/-- Settles O46: the run's entry stands alone of its kind in the table, so that the close finds it. -/
theorem runClosesAndTwinEntriesMerge : Obligations.RunClosesAndTwinEntriesMerge := by
  unfold Obligations.RunClosesAndTwinEntriesMerge
  refine ⟨?close, mergedEntry_spec⟩
  intro r l before after d x s hstate hclock happlied hrun hrecord hquiet htable hd hothers rd limit final c put
    mate mates others whole m merges twin
  have hdue : (s.rd r).closeDue l = true := by
    unfold Reader.closeDue
    rw [hrun, decide_eq_true (Nat.succ_le_of_lt hquiet)]
    rfl
  have hfinal : (s.rd r).finalEnd l ((s.rd r).entered - 1) = final := by
    unfold Reader.finalEnd
    rw [hrecord, htable]
    rfl
  have hmate : mergesWith l c = mate := funext fun y => mergesWith_eq l c y
  have hclose := closeRun_eq (s := s) final htable hd hothers
  dsimp only at hclose
  have hnow : closeRunNow r l s = closeRun r l final s := congrArg (fun e => closeRun r l e s) hfinal
  obtain ⟨hkind, _, hlanes⟩ := isRunOf_iff.mp hd
  have hmerges : (!mates.isEmpty && mergeAllowed (s.rd r).active.lmax m others) = true ↔ merges := by
    rw [Bool.and_eq_true, mergeAllowed_iff, Bool.not_eq_true', List.isEmpty_eq_false_iff]
  rw [hmate] at hclose
  have hclosed : ∀ e, closeRun r l final s = e → ∀ t, Settles t e → Completes (.runClose r l) s t :=
    fun e he t ht => completes_runClose hstate hclock happlied hdue (hnow.trans he ▸ ht)
  have hkept : ((s.closedTo r l (before ++ c :: after)).rd r).twinConditions c = true ↔ twin := by
    rw [State.rd_closedTo]
    exact Reader.twinConditions_closed hlanes hkind hstate
  refine ⟨fun hm => ⟨fileDefect others m, fileDefect_perm .., fun hsorted => ?_, ?_⟩, fun hm ht => ?_, fun hm ht => ?_⟩
  · refine fileDefect_sorted _ _ (hsorted.sublist (List.filter_sublist.trans ?_))
    exact List.Sublist.append_left (List.sublist_cons_self _ _) _
  · exact hclosed _ (hclose.trans (if_pos (hmerges.mpr hm))) _ (Settles.refl _)
  · exact hclosed _ (hclose.trans ((if_neg (mt hmerges.mp hm)).trans (if_neg (mt hkept.mp ht)))) _ (Settles.refl _)
  · exact hclosed _ (hclose.trans ((if_neg (mt hmerges.mp hm)).trans (if_pos (hkept.mpr ht)))) _ (State.evaluateChange_settles _ _)

end Sys2Proof.Machine
end

section
/-! What the monitor's and the hum canceller's part of a frame event leaves: the table's work, and the DFCT records. -/

namespace Sys2Proof.Machine

/-! ## The records and the alerts that may join them -/

/-- The DFCT records of the queue. -/
def ReportQueue.dfcts (q : ReportQueue) : List (ReaderId × ReportBody) := q.bodies.filter (·.2.isDfct)

theorem ReportQueue.length_dfcts (q : ReportQueue) : q.dfcts.length = q.dfctCount := by
  unfold ReportQueue.dfcts ReportQueue.dfctCount ReportQueue.bodies
  rw [← List.countP_eq_length_filter, List.countP_map]
  rfl

/-- The records of the queue and the alerts that the armed watches may still offer. -/
def State.load (s : State) : Nat :=
  s.queue.records.length + (s.readerA.watch.armed.toNat + s.readerB.watch.armed.toNat)

theorem State.load_le (s : State) : s.load ≤ s.queue.records.length + 2 := by
  have hA := Bool.toNat_le s.readerA.watch.armed
  have hB := Bool.toNat_le s.readerB.watch.armed
  unfold State.load
  omega

theorem State.load_onReader {s : State} {r : ReaderId} {f : Reader → Reader} (h : (f (s.rd r)).watch = (s.rd r).watch) :
    (s.onReader r f).load = s.load := by
  cases r
  · exact congrArg (fun w : Watch => s.queue.records.length + (w.armed.toNat + s.readerB.watch.armed.toNat)) h
  · exact congrArg (fun w : Watch => s.queue.records.length + (s.readerA.watch.armed.toNat + w.armed.toNat)) h

theorem ReportQueue.length_offer (q : ReportQueue) (x : Record) : (q.offer x).records.length ≤ q.records.length + 1 := by
  unfold ReportQueue.offer
  split
  · simp
  · exact Nat.le_succ _

theorem ReportQueue.dfcts_offer (q : ReportQueue) {x : Record} (h : x.body.isDfct = false) : (q.offer x).dfcts = q.dfcts := by
  unfold ReportQueue.dfcts
  rw [ReportQueue.bodies_offer]
  split <;> simp [h]

theorem State.load_offer (s : State) (r : ReaderId) (b : ReportBody) : (s.offer r b).load ≤ s.load + 1 := by
  have hlength := s.queue.length_offer { reader := r, lost := false, body := b }
  change (s.queue.offer _).records.length + _ ≤ _
  unfold State.load
  change _ + (s.readerA.watch.armed.toNat + s.readerB.watch.armed.toNat) ≤ _
  omega

/-- An alert takes the place that its watch kept for it. -/
theorem State.load_fireWatch {s : State} {r : ReaderId} (h : (s.rd r).watch.armed = true) (c : BitVec 16) :
    (s.fireWatch r c).load ≤ s.load := by
  have hlength := s.queue.length_offer
    { reader := r, lost := false
      body := .alrt c (s.rd r).watch.mask (s.rd r).watch.mode (s.rd r).monitor.frameCount (s.rd r).index }
  unfold State.load
  cases r with
  | a =>
    change s.readerA.watch.armed = true at h
    change _ + (0 + s.readerB.watch.armed.toNat) ≤ _
    rw [h, Bool.toNat_true]
    exact (Nat.add_le_add_right hlength _).trans (by omega)
  | b =>
    change s.readerB.watch.armed = true at h
    change _ + (s.readerA.watch.armed.toNat + 0) ≤ _
    rw [h, Bool.toNat_true]
    exact (Nat.add_le_add_right hlength _).trans (by omega)

theorem Watch.armed_of_satisfied {w : Watch} {c : BitVec 16} (h : w.satisfied c = true) : w.armed = true := by
  unfold Watch.satisfied at h
  exact (Bool.and_eq_true_iff.mp h).1

theorem State.armed_fireWatch_other (s : State) (r : ReaderId) (c : BitVec 16) :
    ((s.fireWatch r c).rd (otherReader r)).watch = (s.rd (otherReader r)).watch := by
  cases r <;> rfl

theorem State.load_evaluateWatch (s : State) (r : ReaderId) : (s.evaluateWatch r).load ≤ s.load := by
  unfold State.evaluateWatch
  split
  · exact State.load_fireWatch (Watch.armed_of_satisfied ‹_›) _
  · exact le_rfl

theorem State.load_evaluateWatches (s : State) : s.evaluateWatches.load ≤ s.load := by
  unfold State.evaluateWatches
  dsimp only
  split
  · rename_i hboth
    obtain ⟨hA, hB⟩ := Bool.and_eq_true_iff.mp hboth
    have hfires : ∀ (k : Nat) (r : ReaderId) (c d : BitVec 16), (s.rd r).watch.armed = true →
        (s.rd (otherReader r)).watch.armed = true →
        ((({ s with freeTick := k } : State).fireWatch r c).fireWatch (otherReader r) d).load ≤ s.load := by
      intro k r c d hr hother
      refine (State.load_fireWatch ?_ d).trans (State.load_fireWatch (s := { s with freeTick := k }) hr c)
      rw [State.armed_fireWatch_other]
      exact hother
    split
    · exact hfires _ .a _ _ (Watch.armed_of_satisfied hA) (Watch.armed_of_satisfied hB)
    · exact hfires _ .b _ _ (Watch.armed_of_satisfied hB) (Watch.armed_of_satisfied hA)
  · split
    · exact (State.load_evaluateWatch _ _).trans (State.load_fireWatch (Watch.armed_of_satisfied ‹_›) _)
    · split
      · exact (State.load_evaluateWatch _ _).trans (State.load_fireWatch (Watch.armed_of_satisfied ‹_›) _)
      · exact le_rfl

theorem State.load_evaluateChange (old s : State) : (State.evaluateChange old s).load ≤ s.load := by
  unfold State.evaluateChange
  split
  · exact le_rfl
  · exact s.load_evaluateWatches

/-! ## What rests -/

/-- From s to t the reader keeps what the table's work moves and its gap flag, and the queue its DFCT records; at most n reports
join that no watch had kept a place for. -/
structure Rests (r : ReaderId) (n : Nat) (s t : State) : Prop where
  moving : (t.rd r).moving = (s.rd r).moving
  gap : (t.rd r).gap = (s.rd r).gap
  dfcts : t.queue.dfcts = s.queue.dfcts
  placeHeld : t.queue.placeHeld = s.queue.placeHeld
  load : t.load ≤ s.load + n

theorem Rests.refl (r : ReaderId) (s : State) : Rests r 0 s s := ⟨rfl, rfl, rfl, rfl, le_rfl⟩

theorem Rests.trans {r : ReaderId} {m n : Nat} {s t u : State} (a : Rests r m s t) (b : Rests r n t u) : Rests r (m + n) s u where
  moving := b.moving.trans a.moving
  gap := b.gap.trans a.gap
  dfcts := b.dfcts.trans a.dfcts
  placeHeld := b.placeHeld.trans a.placeHeld
  load := by
    have ha := a.load
    have hb := b.load
    omega

theorem Rests.mono {r : ReaderId} {m n : Nat} {s t : State} (h : Rests r m s t) (hmn : m ≤ n) : Rests r n s t :=
  { h with load := h.load.trans (Nat.add_le_add_left hmn _) }

theorem Rests.onReader {r : ReaderId} {n : Nat} {s t : State} (h : Rests r n s t) {f : Reader → Reader}
    (hmoving : (f (t.rd r)).moving = (t.rd r).moving) (hgap : (f (t.rd r)).gap = (t.rd r).gap)
    (hwatch : (f (t.rd r)).watch = (t.rd r).watch) : Rests r n s (t.onReader r f) where
  moving := by rw [State.rd_onReader_self, hmoving, h.moving]
  gap := by rw [State.rd_onReader_self, hgap, h.gap]
  dfcts := by rw [State.onReader_queue, h.dfcts]
  placeHeld := by rw [State.onReader_queue, h.placeHeld]
  load := by
    rw [State.load_onReader hwatch]
    exact h.load

theorem Rests.offer {r : ReaderId} {n : Nat} {s t : State} (h : Rests r n s t) (q : ReaderId) {b : ReportBody}
    (hb : b.isDfct = false) : Rests r (n + 1) s (t.offer q b) where
  moving := by rw [State.rd_offer, h.moving]
  gap := by rw [State.rd_offer, h.gap]
  dfcts := (t.queue.dfcts_offer hb).trans h.dfcts
  placeHeld := (ends_offer t q b).placeHeld.trans h.placeHeld
  load := (t.load_offer q b).trans (Nat.add_le_add_right h.load 1)

theorem dfcts_of_settles {s t : State} (h : Settles s t) : t.queue.dfcts = s.queue.dfcts := by
  obtain ⟨_, alerts, hbodies, halerts⟩ := h
  have hnone : alerts.filter (·.2.isDfct) = [] := by
    refine List.filter_eq_nil_iff.mpr fun x hx => ?_
    have halert := halerts x hx
    cases hbody : x.2 <;> rw [hbody] at halert <;> simp_all [ReportBody.isAlrt, ReportBody.isDfct]
  unfold ReportQueue.dfcts
  rw [hbodies, List.append_nil, List.filter_append, hnone, List.append_nil]

theorem Rests.settles {r : ReaderId} {n : Nat} {s t u : State} (h : Rests r n s t) (hsettles : Settles t u)
    (hload : u.load ≤ t.load) : Rests r n s u where
  moving := (moving_of_calm (hsettles.1.calm r)).trans h.moving
  gap := (congrArg Reader.gap (hsettles.1.calm r) :).trans h.gap
  dfcts := (dfcts_of_settles hsettles).trans h.dfcts
  placeHeld := hsettles.1.placeHeld.trans h.placeHeld
  load := hload.trans h.load

theorem Rests.watches {r : ReaderId} {n : Nat} {s t : State} (h : Rests r n s t) : Rests r n s t.evaluateWatches :=
  h.settles t.evaluateWatches_settles t.load_evaluateWatches

theorem Rests.change {r : ReaderId} {n : Nat} {s t : State} (h : Rests r n s t) (old : State) :
    Rests r n s (State.evaluateChange old t) :=
  h.settles (State.evaluateChange_settles old t) (State.load_evaluateChange old t)

theorem ReportQueue.length_beginHead (q : ReportQueue) : q.beginHead.records.length = q.records.length := by
  unfold ReportQueue.beginHead
  split
  · rfl
  · rename_i hrecords
    rw [hrecords]
    rfl

theorem State.load_arbitrate (s : State) : s.arbitrate.load = s.load := by
  unfold State.arbitrate
  split
  · rfl
  · rfl
  · split
    · split
      · rfl
      · split
        · split
          · rfl
          · exact congrArg (· + (s.readerA.watch.armed.toNat + s.readerB.watch.armed.toNat)) s.queue.length_beginHead
        · rfl
    · rfl

theorem Rests.arbitrate {r : ReaderId} {n : Nat} {s t : State} (h : Rests r n s t) : Rests r n s t.arbitrate :=
  h.settles (State.arbitrate_settles t) t.load_arbitrate.le

theorem Rests.offerHums {r : ReaderId} {n : Nat} {s t : State} (h : Rests r n s t) (cause : HumsCause) (index : Nat) (old : Reader) :
    Rests r (n + 1) s (t.offerHums r cause index old) := by
  unfold State.offerHums
  split
  · exact h.mono (Nat.le_succ _)
  · exact h.offer r rfl

theorem Rests.recompute {r : ReaderId} {n : Nat} {s t : State} (h : Rests r n s t) (index : Nat) :
    Rests r (n + 1) s (recomputeIncrements r index t) :=
  ((h.onReader (f := Reader.recomputeHum) rfl rfl rfl).offerHums _ _ _).watches

theorem Rests.endPeriod {r : ReaderId} {n : Nat} {s t : State} (h : Rests r n s t) (index : Nat) :
    Rests r (n + 1) s (endPeriod r index t) :=
  ((h.onReader (f := Reader.settleHum) rfl rfl rfl).offerHums _ _ _).watches

theorem Rests.humFrameEvent {r : ReaderId} {n : Nat} {s t : State} (h : Rests r n s t) (index : Nat) :
    Rests r (n + 1) s (humFrameEvent r index t) := by
  unfold Sys2Proof.Machine.humFrameEvent
  dsimp only
  split
  · have hcount := h.onReader (f := Reader.humCount) rfl rfl rfl
    split
    · exact hcount.endPeriod index
    · exact hcount.mono (Nat.le_succ _)
  · exact h.mono (Nat.le_succ _)

theorem monitorPulse_rests (r : ReaderId) (s : State) : Rests r 2 s (monitorPulse r s) := by
  unfold monitorPulse
  dsimp only
  generalize (s.rd r).monitor.pulse (s.rd r).active (s.rd r).index (s.rd r).clockLost = out
  have hmonitor : Rests r 0 s (s.onReader r fun x => { x with monitor := out.monitor }) :=
    (Rests.refl r s).onReader rfl rfl rfl
  have hreported : Rests r 1 s (match out.report with
      | some cause => (s.onReader r fun x => { x with monitor := out.monitor }).offerFrms r cause (s.rd r).index
      | none => s.onReader r fun x => { x with monitor := out.monitor }).evaluateWatches := by
    refine Rests.watches ?_
    split
    · exact hmonitor.offer r rfl
    · exact hmonitor.mono (Nat.le_succ _)
  split
  · exact hreported.recompute _
  · exact hreported.mono (Nat.le_succ _)

theorem monitorTick_rests (r : ReaderId) (s : State) : Rests r 2 s (monitorTick r s) := by
  unfold monitorTick
  dsimp only
  have htick : Rests r 0 s (s.onReader r fun x => { x with monitor := x.monitor.tick (s.rd r).index }) :=
    (Rests.refl r s).onReader (f := fun x => { x with monitor := x.monitor.tick (s.rd r).index }) rfl rfl rfl
  split
  · exact ((htick.onReader (f := fun x => { x with monitor := x.monitor.enterFree x.active }) rfl rfl rfl).offer r rfl).watches.recompute _
  · exact htick.watches.mono (by decide)

theorem enterHoldover_rests (r : ReaderId) (s : State) : Rests r 1 s (enterHoldover r s) :=
  ((Rests.refl r s).onReader (f := fun x => { x with monitor := x.monitor.enterHoldover }) rfl rfl rfl).offer r rfl

/-! ## Frame events that apply no set -/

theorem applyAtFrame_of_withheld {r : ReaderId} {cause : ApldCause} {index : Nat} {s : State}
    (h : (s.rd r).params.releases = false) : applyAtFrame r cause index s = s := by
  unfold applyAtFrame
  rw [h, Bool.and_false, if_neg Bool.false_ne_true]

theorem virtualTick_rests {r : ReaderId} {s : State} (h : (s.rd r).params.releases = false) : Rests r 3 s (virtualTick r s) := by
  have hparams : ((monitorTick r s).rd r).params = (s.rd r).params :=
    (congrArg Reader.params (monitorTick_yields r s).still).trans (Reader.params_of_besideHum (s.rd r).besideHum_ticked :)
  unfold virtualTick frameEvent
  dsimp only
  rw [applyAtFrame_of_withheld (hparams ▸ h)]
  exact (monitorTick_rests r s).humFrameEvent _

theorem monitorAtEntry_rests {r : ReaderId} {s : State} (h : (s.rd r).params.releases = false) :
    Rests r 4 s (monitorAtEntry r s) := by
  unfold monitorAtEntry
  split
  · have hparams : ((enterHoldover r s).rd r).params = (s.rd r).params := by
      unfold enterHoldover State.offerFrms
      dsimp only
      rw [State.rd_offer, State.rd_onReader_self]
    exact (enterHoldover_rests r s).trans (virtualTick_rests (hparams ▸ h))
  · split
    · exact (virtualTick_rests h).mono (by decide)
    · exact (Rests.refl r s).mono (by decide)

/-- A real pulse that applies no set: the lists' part of it, behind a state that keeps what the table's work moves. -/
theorem exec_pulse_withheld {r : ReaderId} {s : State} (hstate : (s.rd r).state = .running ∨ (s.rd r).state = .bypassed)
    (h : (s.rd r).params.releases = false) :
    ∃ w, Rests r 3 s w ∧ Yields r s w (s.rd r).pulsed.humCounted ∧
      exec (.realPulse r) s = .next (expireExclusions r (scheduleAtPulse r w)).arbitrate := by
  have hyields := monitorPulse_yields r s
  have hparams : ((monitorPulse r s).rd r).params = (s.rd r).params :=
    (congrArg Reader.params hyields.still).trans (Reader.params_of_besideHum (s.rd r).besideHum_pulsed :)
  refine ⟨_, (monitorPulse_rests r s).humFrameEvent (s.rd r).index, hyields.trans still_humCounted (humFrameEvent_yields r _ _), ?_⟩
  have hcounted : realPulse r s = countedPulse r s := by
    unfold realPulse
    rcases hstate with hstate | hstate <;> rw [hstate]
  refine congrArg (fun u : State => Host.Outcome.next u.arbitrate) (hcounted.trans ?_)
  unfold countedPulse frameEvent
  dsimp only
  rw [applyAtFrame_of_withheld (hparams ▸ h)]

end Sys2Proof.Machine
end

section
/-! Due entries commit (R69, R70, R71, R73, R100). -/

namespace Sys2Proof.Machine

/-! ## The commit of the entries at some positions -/

/-- What a commit makes of an entry. -/
structure Defect.CommitsTo (d d' : Defect) : Prop where
  state : d'.state = .committed
  method : d'.method.isSome = true
  lanes : d'.lanes = d.lanes
  kind : d'.kind = d.kind
  peak : d'.peak = d.peak
  spanStart : d'.spanStart = d.spanStart
  spanEnd : d'.spanEnd = d.spanEnd

/-- Position p of a lane's window lies in the span of an entry of that lane. -/
def Defect.covers (d : Defect) (n : Nat) (l : Lane) (p : Nat) : Prop :=
  d.lanes.has l = true ∧ p < n ∧ d.spanStart ≤ n - 1 - p ∧ n - 1 - p ≤ d.spanEnd

/-- The entries at some positions have committed: no other entry has changed, and no window but in their spans. -/
structure CommitsAt (ks : List Nat) (rd rd' : Reader) : Prop where
  entered : rd'.entered = rd.entered
  length : rd'.table.length = rd.table.length
  entry : ∀ (k : Nat) (d : Defect), rd.table[k]? = some d →
    ∃ d', rd'.table[k]? = some d' ∧ if k ∈ ks then d.CommitsTo d' else d' = d
  window : ∀ (l : Lane) (p : Nat), (rd'.lane l).window[p]? ≠ (rd.lane l).window[p]? →
    ∃ k ∈ ks, ∃ d, rd.table[k]? = some d ∧ d.covers rd.entered l p

theorem Reader.table_recorded (rd : Reader) (k : Nat) (d : Defect) (complete : Bool) :
    ∃ d', (rd.recorded k d complete).table = rd.table.set k d' ∧ d.CommitsTo d' :=
  ⟨_, rfl, rfl, rfl, rfl, rfl, rfl, rfl, rfl⟩

theorem Reader.window_recorded {rd : Reader} {k : Nat} {d : Defect} {complete : Bool} {l : Lane} {p : Nat}
    (h : ((rd.recorded k d complete).lane l).window[p]? ≠ (rd.lane l).window[p]?) : d.covers rd.entered l p := by
  have hwindow : ((rd.recorded k d complete).lane l).window = rd.repairedWindow l d (rd.chooseMethod d complete) := by cases l <;> rfl
  rw [hwindow, Reader.repairedWindow_at] at h
  by_contra hnot
  refine h ?_
  have hcond : ∀ c : Cell, (if (rd.chooseMethod d complete).replaces = true ∧ d.lanes.has l = true ∧ p < rd.entered ∧
      d.spanStart ≤ rd.entered - 1 - p ∧ rd.entered - 1 - p ≤ d.spanEnd then
      { c with sample := sampleOf (rd.replacement l d (rd.chooseMethod d complete) (rd.entered - 1 - p - d.spanStart)) } else c) = c :=
    fun c => if_neg fun hc => hnot hc.2
  simp only [hcond, Option.map_id']

theorem CommitsAt.of_set {k : Nat} {d d' : Defect} {rd rd' : Reader} (hk : rd.table[k]? = some d) (hd : d.CommitsTo d')
    (hentered : rd'.entered = rd.entered) (htable : rd'.table = rd.table.set k d')
    (hwindow : ∀ (l : Lane) (p : Nat), (rd'.lane l).window[p]? ≠ (rd.lane l).window[p]? → d.covers rd.entered l p) :
    CommitsAt [k] rd rd' where
  entered := hentered
  length := by rw [htable, List.length_set]
  entry j e he := by
    obtain ⟨hlt, _⟩ := List.getElem?_eq_some_iff.mp he
    rw [htable]
    by_cases hjk : j = k
    · subst hjk
      obtain rfl : d = e := Option.some.inj (hk.symm.trans he)
      exact ⟨d', List.getElem?_set_self hlt, by simpa using hd⟩
    · exact ⟨e, by rw [List.getElem?_set_ne (Ne.symm hjk), he], by simp [hjk]⟩
  window l p h := ⟨k, List.mem_singleton_self k, d, hk, hwindow l p h⟩

theorem commitAt_commits {r : ReaderId} {k : Nat} {d : Defect} {s : State} (hk : (s.rd r).table[k]? = some d) (complete : Bool) :
    CommitsAt [k] (s.rd r) ((commitAt r k complete s).rd r) := by
  rw [commitAt_eq hk]
  split
  · rw [State.rd_onQueue, State.rd_onReader_self]
    obtain ⟨d', htable, hd⟩ := (s.rd r).table_recorded k d complete
    exact .of_set hk hd rfl htable fun l p => Reader.window_recorded
  · rw [State.rd_onReader_self]
    refine .of_set hk (d' := { d with state := .committed, method := some .unrecorded }) ⟨rfl, rfl, rfl, rfl, rfl, rfl, rfl⟩ rfl rfl
      fun l p h => ?_
    cases l <;> exact absurd rfl h

theorem commitWatched_table {r : ReaderId} {k : Nat} {d : Defect} {s : State} (hk : (s.rd r).table[k]? = some d) (complete : Bool) :
    ∃ d', d.CommitsTo d' ∧ ((commitWatched r k complete s).rd r).table = (s.rd r).table.set k d' := by
  have hsettles := table_of_settles (State.evaluateChange_settles s (commitAt r k complete s)) r
  unfold commitWatched
  rw [hsettles, commitAt_eq hk]
  split
  · rw [State.rd_onQueue, State.rd_onReader_self]
    obtain ⟨d', htable, hd⟩ := (s.rd r).table_recorded k d complete
    exact ⟨d', hd, htable⟩
  · rw [State.rd_onReader_self]
    exact ⟨{ d with state := .committed, method := some .unrecorded }, ⟨rfl, rfl, rfl, rfl, rfl, rfl, rfl⟩, rfl⟩

theorem CommitsAt.of_calm {ks : List Nat} {a b c : Reader} (h : CommitsAt ks a b) (hcalm : c.calm = b.calm) : CommitsAt ks a c := by
  have hlane : ∀ l, c.lane l = b.lane l := fun l => by
    cases l
    · exact (congrArg Reader.lane0 hcalm :)
    · exact (congrArg Reader.lane1 hcalm :)
  have htable : c.table = b.table := (congrArg Reader.table hcalm :)
  refine ⟨(congrArg Reader.entered hcalm :).trans h.entered, htable ▸ h.length, htable ▸ h.entry, fun l p => ?_⟩
  rw [hlane]
  exact h.window l p

/-- One commit behind others, at a position that they left. -/
theorem CommitsAt.cons {k : Nat} {ks : List Nat} {a b c : Reader} (hk : k ∉ ks) (hab : CommitsAt [k] a b) (hbc : CommitsAt ks b c) :
    CommitsAt (k :: ks) a c where
  entered := hbc.entered.trans hab.entered
  length := hbc.length.trans hab.length
  entry j d hd := by
    obtain ⟨d', hd', hone⟩ := hab.entry j d hd
    obtain ⟨d'', hd'', hrest⟩ := hbc.entry j d' hd'
    refine ⟨d'', hd'', ?_⟩
    by_cases hjk : j = k
    · subst hjk
      rw [if_neg hk] at hrest
      subst hrest
      simpa using hone
    · obtain rfl : d' = d := by simpa [hjk] using hone
      simpa [hjk] using hrest
  window l p h := by
    by_cases hone : (b.lane l).window[p]? = (a.lane l).window[p]?
    · obtain ⟨j, hj, d, hd, hcovers⟩ := hbc.window l p (hone ▸ h)
      obtain ⟨hlt, _⟩ := List.getElem?_eq_some_iff.mp hd
      obtain ⟨d₀, hd₀⟩ : ∃ d₀, a.table[j]? = some d₀ := ⟨_, List.getElem?_eq_getElem (hab.length ▸ hlt)⟩
      obtain ⟨d', hd', hsame⟩ := hab.entry j d₀ hd₀
      have hjk : j ≠ k := fun hjk => hk (hjk ▸ hj)
      obtain rfl : d' = d := Option.some.inj (hd'.symm.trans hd)
      obtain rfl : d' = d₀ := by simpa [hjk] using hsame
      exact ⟨j, List.mem_cons_of_mem _ hj, d', hd₀, hab.entered ▸ hcovers⟩
    · obtain ⟨j, hj, d, hd, hcovers⟩ := hab.window l p hone
      obtain rfl := List.mem_singleton.mp hj
      exact ⟨j, List.mem_cons_self, d, hd, hcovers⟩

theorem CommitsAt.nil (rd : Reader) : CommitsAt [] rd rd := ⟨rfl, rfl, fun _ d hd => ⟨d, hd, rfl⟩, fun _ _ h => absurd rfl h⟩

theorem commitAll_commits {r : ReaderId} {ks : List Nat} {s : State} (hnodup : ks.Nodup)
    (hks : ∀ k ∈ ks, k < (s.rd r).table.length) : CommitsAt ks (s.rd r) ((commitAll r ks s).rd r) := by
  induction ks generalizing s with
  | nil => exact CommitsAt.nil _
  | cons k ks ih =>
    obtain ⟨hk, hnodup⟩ := List.nodup_cons.mp hnodup
    obtain ⟨hlt, hrest⟩ := List.forall_mem_cons.mp hks
    obtain ⟨complete, u, hu⟩ : ∃ complete u, u = commitWatched r k complete s ∧ commitAll r (k :: ks) s = commitAll r ks u :=
      ⟨_, _, rfl, rfl⟩
    have hone : CommitsAt [k] (s.rd r) (u.rd r) := by
      rw [hu.1]
      exact (commitAt_commits (List.getElem?_eq_getElem hlt) complete).of_calm ((State.evaluateChange_settles s _).1.calm r)
    rw [hu.2]
    exact hone.cons hk (ih hnodup fun j hj => hone.length ▸ hrest j hj)

theorem nodup_positions (t : List Defect) (test : Defect → Bool) : (positions t test).Nodup := List.nodup_range.filter _

theorem mem_positions {t : List Defect} {test : Defect → Bool} {k : Nat} :
    k ∈ positions t test ↔ ∃ d, t[k]? = some d ∧ test d = true := by
  unfold positions
  rw [List.mem_filter, List.mem_range]
  constructor
  · rintro ⟨hlt, htest⟩
    rw [List.getElem?_eq_getElem hlt] at htest
    exact ⟨_, List.getElem?_eq_getElem hlt, htest⟩
  · rintro ⟨d, hd, htest⟩
    refine ⟨(List.getElem?_eq_some_iff.mp hd).1, ?_⟩
    rw [hd]
    exact htest

/-- The commit of all entries at which a test holds. -/
theorem commitPositions_commits (r : ReaderId) (test : Defect → Bool) (s : State) :
    CommitsAt (positions (s.rd r).table test) (s.rd r) ((commitAll r (positions (s.rd r).table test) s).rd r) := by
  refine commitAll_commits (nodup_positions _ _) fun k hk => ?_
  obtain ⟨d, hd, _⟩ := mem_positions.mp hk
  exact (List.getElem?_eq_some_iff.mp hd).1

/-! ## The rows of the commits -/

/-- The entries at which due holds commit, each closed first as its row says. -/
structure DueCommitted (due : Defect → Bool) (rd rd' : Reader) : Prop where
  length : rd'.table.length = rd.table.length
  entry : ∀ (k : Nat) (d : Defect), rd.table[k]? = some d → ∃ d', rd'.table[k]? = some d' ∧
    if due d then
      ({ d with spanEnd := if d.state == .opened then min d.spanEnd (rd.entered - 2) else d.spanEnd } : Defect).CommitsTo d'
    else d' = d
  window : ∀ (l : Lane) (p : Nat), (rd'.lane l).window[p]? ≠ (rd.lane l).window[p]? →
    ∃ d ∈ rd.table, due d = true ∧ d.covers rd.entered l p

/-- Commits behind the close of the entries that are due. -/
theorem CommitsAt.due {due test : Defect → Bool} {close : Defect → Defect} {rd base rd' : Reader}
    (htable : base.table = rd.table.map close) (hentered : base.entered = rd.entered)
    (hwindow : ∀ l, (base.lane l).window = (rd.lane l).window) (htest : ∀ d, test (close d) = due d)
    (hclose : ∀ d, due d = true →
      close d = { d with
        state := .closed, spanEnd := if d.state == .opened then min d.spanEnd (rd.entered - 2) else d.spanEnd })
    (hkeep : ∀ d, due d = false → close d = d) (h : CommitsAt (positions base.table test) base rd') : DueCommitted due rd rd' where
  length := by rw [h.length, htable, List.length_map]
  entry k d hd := by
    have hbase : base.table[k]? = some (close d) := by rw [htable, List.getElem?_map, hd, Option.map_some]
    have hmem : k ∈ positions base.table test ↔ due d = true := by
      rw [mem_positions, hbase, ← htest]
      simp
    obtain ⟨d', hd', hone⟩ := h.entry k (close d) hbase
    refine ⟨d', hd', ?_⟩
    cases hdue : due d with
    | true =>
      rw [if_pos (hmem.mpr hdue), hclose d hdue] at hone
      rw [if_pos rfl]
      obtain ⟨hstate, hmethod, hlanes, hkind, hpeak, hstart, hend⟩ := hone
      exact ⟨hstate, hmethod, hlanes, hkind, hpeak, hstart, hend⟩
    | false =>
      rw [if_neg (by rw [hmem, hdue]; exact Bool.false_ne_true), hkeep d hdue] at hone
      simpa using hone
  window l p hne := by
    rw [← hwindow] at hne
    obtain ⟨k, hk, d', hd', hlane, hlt, hlow, hhigh⟩ := h.window l p hne
    obtain ⟨d'', hd'', hdue⟩ := mem_positions.mp hk
    obtain rfl := Option.some.inj (hd''.symm.trans hd')
    rw [htable, List.getElem?_map] at hd'
    obtain ⟨d, hd, rfl⟩ := Option.map_eq_some_iff.mp hd'
    rw [htest] at hdue
    rw [hclose d hdue] at hlane hlow hhigh
    rw [hentered] at hlt hlow hhigh
    refine ⟨d, List.mem_of_getElem? hd, hdue, hlane, hlt, hlow, hhigh.trans ?_⟩
    dsimp only
    split
    · exact Nat.min_le_left _ _
    · exact le_rfl

theorem Reader.table_closeAtDeadline (rd : Reader) :
    rd.closeAtDeadline.table = rd.table.map fun d =>
      if d.state == .opened && d.deadlineReached rd.entered then
        { d with state := .closed, spanEnd := min d.spanEnd (rd.entered - 2) }
      else d := by
  unfold Reader.closeAtDeadline
  dsimp only
  split <;> split <;> rfl

/-- The lanes' detectors alone differ between a reader and the same with its entries closed at their deadline. -/
theorem Reader.window_closeAtDeadline (rd : Reader) (l : Lane) : (rd.closeAtDeadline.lane l).window = (rd.lane l).window := by
  unfold Reader.closeAtDeadline
  dsimp only
  cases l <;> split <;> split <;> rfl

theorem Reader.entered_closeAtDeadline (rd : Reader) : rd.closeAtDeadline.entered = rd.entered := by
  unfold Reader.closeAtDeadline
  dsimp only
  split <;> split <;> rfl

theorem commitDue_commits (r : ReaderId) (test : Nat → Defect → Bool) (due : Defect → Bool) (s : State)
    (hdue : ∀ d, test (s.rd r).entered d = due d) (hclosed : ∀ d, due d = true → d.state = .closed) :
    DueCommitted due (s.rd r) ((commitDue r test s).rd r) := by
  refine (commitPositions_commits r (test (s.rd r).entered) s).due (close := id) (List.map_id _).symm rfl (fun _ => rfl) hdue
    (fun d hd => ?_) fun _ _ => rfl
  have hnot : (d.state == .opened) = false := by rw [hclosed d hd]; rfl
  rw [hnot, if_neg Bool.false_ne_true, ← hclosed d hd]
  rfl

theorem deadlinePasses_commits (r : ReaderId) (s : State) :
    DueCommitted (fun d => d.state != .committed && decide (d.spanStart + 1023 < (s.rd r).entered)) (s.rd r)
      ((deadlinePasses r s).rd r) := by
  have hbase : (s.onReader r Reader.closeAtDeadline).rd r = (s.rd r).closeAtDeadline := State.rd_onReader_self _ _ _
  have hentered := (s.rd r).entered_closeAtDeadline
  refine (commitPositions_commits r _ (s.onReader r Reader.closeAtDeadline)).due
    (hbase ▸ (s.rd r).table_closeAtDeadline) (hbase ▸ hentered) (fun l => hbase ▸ Reader.window_closeAtDeadline _ l) (fun d => ?_)
    (fun d hd => ?_) fun d hd => ?_
  · rw [hbase, hentered]
    unfold Defect.dueDeadline Defect.deadlineReached
    cases hstate : d.state <;> cases hreached : decide (d.spanStart + 1023 < (s.rd r).entered) <;> simp_all
  · obtain ⟨hstate, hreached⟩ := Bool.and_eq_true_iff.mp hd
    obtain ⟨_, _, _, _, _, state, _, _, _, _⟩ := d
    cases state with
    | opened => exact if_pos hreached
    | closed => rfl
    | committed => exact absurd hstate Bool.false_ne_true
  · refine if_neg fun hhit => ?_
    obtain ⟨hstate, hreached⟩ := Bool.and_eq_true_iff.mp hhit
    rw [Bool.and_eq_false_iff] at hd
    rw [eq_of_beq hstate] at hd
    exact hd.elim (absurd · (by decide)) fun h => absurd (h.symm.trans hreached) (by decide)

/-! ## What an entry event leaves due -/

/-- No row of the table has an entry to act on, n samples having entered (R69 to R71, R100). -/
def Defect.NotDue (n : Nat) (d : Defect) : Prop :=
  (d.state = .closed → n ≤ d.spanEnd + (d.spanEnd + 1 - d.spanStart) ∧ (d.cut = true → n ≤ d.spanEnd + 1) ∧
    n ≤ d.spanStart + 1023) ∧
  (d.state = .opened → n ≤ d.spanStart + 1023 ∧ (d.kind = .splice → n ≤ d.spanEnd))

/-- From s to t no entry of the reader becomes due, n samples having entered. -/
def Spares (n : Nat) (r : ReaderId) (s t : State) : Prop :=
  (∀ d ∈ (s.rd r).table, d.NotDue n) → ∀ d ∈ (t.rd r).table, d.NotDue n

theorem Defect.notDue_of_committed {n : Nat} {d : Defect} (h : d.state = .committed) : d.NotDue n := by
  refine ⟨fun hclosed => ?_, fun hopened => ?_⟩
  · rw [h] at hclosed
    cases hclosed
  · rw [h] at hopened
    cases hopened

theorem Spares.trans {n : Nat} {r : ReaderId} {s t u : State} (a : Spares n r s t) (b : Spares n r t u) : Spares n r s u := b ∘ a

theorem Spares.of_table {n : Nat} {r : ReaderId} {s t : State} (h : (t.rd r).table = (s.rd r).table) : Spares n r s t := by
  unfold Spares
  rw [h]
  exact id

theorem Spares.watches {n : Nat} {r : ReaderId} {s t : State} (h : Spares n r s t) : Spares n r s t.evaluateWatches :=
  h.trans (.of_table (table_of_settles t.evaluateWatches_settles r))

theorem Rests.spares {n m : Nat} {r : ReaderId} {s t : State} (h : Rests r m s t) : Spares n r s t :=
  .of_table (congrArg Moving.table h.moving)

/-- An entry in no place of the table's rows: it is neither at its deadline nor, a splice, behind its span; and if it is CLOSED,
it does not commit at this event. -/
theorem Defect.notDue_of_dueAtEntry {n : Nat} {d : Defect} (hdue : d.dueAtEntry n = false)
    (hopened : d.state = .opened → n ≤ d.spanStart + 1023 ∧ (d.kind = .splice → n ≤ d.spanEnd)) : d.NotDue n := by
  refine ⟨fun hclosed => ?_, hopened⟩
  simp only [Defect.dueAtEntry, Defect.dueDeadline, Defect.dueComplete, Defect.dueCut, hclosed, beq_self_eq_true, Bool.true_and,
    Bool.or_eq_false_iff, Bool.and_eq_false_iff] at hdue
  obtain ⟨⟨hdeadline, hcomplete⟩, hcut⟩ := hdue
  exact ⟨not_lt.mp (of_decide_eq_false hcomplete),
    fun h => not_lt.mp (of_decide_eq_false (hcut.resolve_left (by simp [h]))), not_lt.mp (of_decide_eq_false hdeadline)⟩

theorem Reader.opened_of_closes {rd : Reader} {d : Defect} (hd : d ∈ rd.closeAtDeadline.closeSplices.table)
    (hopened : d.state = .opened) : rd.entered ≤ d.spanStart + 1023 ∧ (d.kind = .splice → rd.entered ≤ d.spanEnd) := by
  have htable : rd.closeAtDeadline.closeSplices.table = rd.closeAtDeadline.table.map fun d =>
      if d.dueSpliceClose rd.closeAtDeadline.entered then { d with state := .closed } else d := rfl
  rw [htable, rd.entered_closeAtDeadline, rd.table_closeAtDeadline] at hd
  obtain ⟨d₁, hd₁, hd⟩ := List.mem_map.mp hd
  by_cases hsplice : d₁.dueSpliceClose rd.entered = true
  · rw [if_pos hsplice] at hd
    subst hd
    cases hopened
  · rw [if_neg hsplice] at hd
    subst hd
    obtain ⟨d₀, _, hd₀⟩ := List.mem_map.mp hd₁
    by_cases hdeadline : (d₀.state == .opened && d₀.deadlineReached rd.entered) = true
    · rw [if_pos hdeadline] at hd₀
      subst hd₀
      cases hopened
    · rw [if_neg hdeadline] at hd₀
      subst hd₀
      simp only [Defect.deadlineReached, hopened, beq_self_eq_true, Bool.true_and, decide_eq_true_eq, not_lt] at hdeadline
      refine ⟨hdeadline, fun hkind => ?_⟩
      simpa [Defect.dueSpliceClose, hopened, hkind] using hsplice

theorem tableAtEntry_notDue (r : ReaderId) (s : State) :
    ∀ d ∈ ((tableAtEntry r s).rd r).table, d.NotDue (s.rd r).entered := by
  intro d' hd'
  have hbase : (s.onReader r fun x => x.closeAtDeadline.closeSplices).rd r = (s.rd r).closeAtDeadline.closeSplices :=
    State.rd_onReader_self _ _ _
  have hentered : (s.rd r).closeAtDeadline.closeSplices.entered = (s.rd r).entered := (s.rd r).entered_closeAtDeadline
  have hcommits := commitPositions_commits r (fun d => d.dueAtEntry (s.rd r).entered)
    (s.onReader r fun x => x.closeAtDeadline.closeSplices)
  have htable : tableAtEntry r s = commitAll r (positions ((s.onReader r fun x => x.closeAtDeadline.closeSplices).rd r).table
      fun d => d.dueAtEntry (s.rd r).entered) (s.onReader r fun x => x.closeAtDeadline.closeSplices) := by
    unfold tableAtEntry
    dsimp only
    rw [hbase, hentered]
  rw [htable] at hd'
  obtain ⟨k, hlt, hk⟩ := List.getElem_of_mem hd'
  obtain ⟨d, hd⟩ : ∃ d, ((s.onReader r fun x => x.closeAtDeadline.closeSplices).rd r).table[k]? = some d :=
    ⟨_, List.getElem?_eq_getElem (hcommits.length ▸ hlt)⟩
  obtain ⟨d'', hd'', hone⟩ := hcommits.entry k d hd
  obtain rfl : d'' = d' := Option.some.inj (hd''.symm.trans (hk ▸ List.getElem?_eq_getElem hlt))
  split at hone
  · exact Defect.notDue_of_committed hone.state
  · rename_i hnot
    subst hone
    have hdue : d''.dueAtEntry (s.rd r).entered = false :=
      Bool.eq_false_iff.mpr fun h => hnot (mem_positions.mpr ⟨d'', hd, h⟩)
    exact Defect.notDue_of_dueAtEntry hdue (Reader.opened_of_closes (hbase ▸ List.mem_of_getElem? hd))

/-! ## The apply of a set leaves none due -/

theorem growRun_spares (n : Nat) (r : ReaderId) (l : Lane) (lastHot ratio : Nat) (s : State) :
    Spares n r s (s.onReader r fun x => x.growRun l lastHot ratio) := by
  intro h d hd
  rw [State.rd_onReader_self] at hd
  obtain ⟨d₀, hd₀, rfl⟩ := List.mem_map.mp hd
  split
  · rename_i hrun
    obtain ⟨hkind, hstate, _⟩ := isRunOf_iff.mp hrun
    obtain ⟨_, hopened⟩ := h d₀ hd₀
    refine ⟨fun hclosed => ?_, fun _ => ⟨(hopened hstate).1, fun hsplice => ?_⟩⟩
    · cases hstate.symm.trans hclosed
    · cases hkind.symm.trans hsplice
  · exact h d₀ hd₀

/-- An overlong close finds no run, or commits its entry, Lmax + 1 long (R51). -/
theorem closeOverlong_table (r : ReaderId) (l : Lane) (s : State) :
    (s.rd r).table[(s.rd r).table.findIdx (isRunOf l)]? = none ∧ ((closeOverlong r l s).rd r).table = (s.rd r).table ∨
      ∃ d d' : Defect, (s.rd r).table[(s.rd r).table.findIdx (isRunOf l)]? = some d ∧
        ({ d with spanEnd := d.spanStart + (s.rd r).active.lmax } : Defect).CommitsTo d' ∧
        ((closeOverlong r l s).rd r).table = (s.rd r).table.set ((s.rd r).table.findIdx (isRunOf l)) d' := by
  unfold closeOverlong
  dsimp only
  have hcaught : ((s.onReader r fun x => x.onLane l fun ln =>
      { ln with detector := { ln.detector.idle with run := .catchup } }).rd r).table = (s.rd r).table := by
    rw [State.rd_onReader_self]
    exact Reader.table_onLane _ _ _
  split
  · rename_i hnone
    exact .inl ⟨hnone, hcaught⟩
  · rename_i d hd
    obtain ⟨hlt, _⟩ := List.getElem?_eq_some_iff.mp hd
    generalize hk : (s.rd r).table.findIdx (isRunOf l) = k at hd hlt ⊢
    have hset : ∀ c : Defect, (((s.onReader r fun x => x.onLane l fun ln =>
        { ln with detector := { ln.detector.idle with run := .catchup } }).onReader r fun x => x.setEntry k c).rd r).table =
        (s.rd r).table.set k c := by
      intro c
      rw [State.rd_onReader_self]
      exact congrArg (List.set · k c) hcaught
    obtain ⟨d', ⟨hstate, hmethod, hlanes, hkind, hpeak, hstart, hend⟩, htable⟩ := commitWatched_table
      (d := { d with spanEnd := d.spanStart + (s.rd r).active.lmax, state := .closed }) (by rw [hset, List.getElem?_set_self hlt]) false
    refine .inr ⟨d, d', hd, ⟨hstate, hmethod, hlanes, hkind, hpeak, hstart, hend⟩, htable.trans ?_⟩
    rw [hset, List.set_set]

theorem closeOverlong_spares (n : Nat) (r : ReaderId) (l : Lane) (s : State) : Spares n r s (closeOverlong r l s) := by
  intro h d hd
  rcases closeOverlong_table r l s with ⟨_, htable⟩ | ⟨_, d', _, hd', htable⟩
  · exact h d (htable ▸ hd)
  · rw [htable] at hd
    rcases List.mem_or_eq_of_mem_set hd with hd | rfl
    · exact h d hd
    · exact Defect.notDue_of_committed hd'.state

theorem applyToRun_spares (n : Nat) (r : ReaderId) (s : State) (l : Lane) : Spares n r s (applyToRun r s l) := by
  unfold applyToRun
  split
  · rename_i x _ _
    dsimp only
    split
    · exact (growRun_spares n r l x.lastHot 0 s).trans (closeOverlong_spares n r l _)
    · exact growRun_spares n r l x.lastHot 0 s
  all_goals exact id

theorem Reader.table_idleLane (rd : Reader) (l : Lane) : (rd.idleLane l).table = rd.table := Reader.table_onLane _ _ _

theorem table_disableLane (l : Lane) (rd : Reader) : (disableLane l rd).table.Sublist rd.table := by
  unfold disableLane
  split
  · rw [Reader.table_idleLane]
    exact List.filter_sublist
  · exact (Reader.table_idleLane rd l).symm ▸ .refl _
  · exact (Reader.table_idleLane rd l).symm ▸ .refl _
  · exact .refl _

theorem applyToDetectors_spares (n : Nat) (r : ReaderId) (old : ParamSet) (s : State) :
    Spares n r s (applyToDetectors r old s) := by
  unfold applyToDetectors
  split
  · intro h d hd
    rw [State.rd_onReader_self] at hd
    exact h d (((table_disableLane _ _).trans (table_disableLane _ _)).subset hd)
  · generalize lanesByTable (s.rd r).table = ls
    clear * -
    induction ls generalizing s with
    | nil => exact id
    | cons l ls ih => exact (applyToRun_spares n r s l).trans (ih _)

theorem applySet_spares (n : Nat) (r : ReaderId) (cause : ApldCause) (index : Nat) (s : State) :
    Spares n r s (applySet r cause index s) := by
  unfold applySet
  dsimp only
  have hrotate : Rests r 1 s (rotateSlots r cause index s).evaluateWatches :=
    (((Rests.refl r s).onReader (f := fun x => { x with params := x.params.rotate }) rfl rfl rfl).offer r rfl).watches
  have hclamp := hrotate.onReader (f := fun x => { x with monitor := x.monitor.clampS x.active }) rfl rfl rfl
  have hhum := ((hclamp.onReader (f := fun x => x.applyHum (s.rd r).active) rfl rfl rfl).offerHums .apply index
    ((clampSmoothed r (rotateSlots r cause index s).evaluateWatches).rd r)).watches
  refine Spares.watches ((hhum.spares.trans (applyToDetectors_spares n r (s.rd r).active _)).trans (.of_table ?_))
  rw [State.rd_onReader_self]
  unfold applyToHiss
  rw [State.rd_onReader_self]
  rfl

theorem virtualTick_spares (n : Nat) (r : ReaderId) (s : State) : Spares n r s (virtualTick r s) := by
  have hticked : Spares n r s (monitorTick r s) := (monitorTick_rests r s).spares
  have happlied : ∀ u : State, Spares n r u (applyAtFrame r .tick (s.rd r).index u) := fun u => by
    unfold applyAtFrame
    split
    · exact applySet_spares n r _ _ u
    · exact id
  exact (hticked.trans (happlied _)).trans (((Rests.refl r _).humFrameEvent _).spares)

theorem monitorAtEntry_spares (n : Nat) (r : ReaderId) (s : State) : Spares n r s (monitorAtEntry r s) := by
  unfold monitorAtEntry
  split
  · exact (enterHoldover_rests r s).spares.trans (virtualTick_spares n r _)
  · split
    · exact virtualTick_spares n r s
    · exact id

theorem entryRunning_notDue (r : ReaderId) (x0 x1 : Sample) (first : Lane) (s : State) :
    ∀ d ∈ ((entryRunning r x0 x1 first s).rd r).table, d.NotDue ((s.rd r).entered + 1) := by
  have henter := enterStarted_yields r x0 x1 s
  have hdetect : ∀ e, Yields r s (detectBoth r first e x0 x1 (enterStarted r x0 x1 s)) ((s.rd r).sampled x0 x1) :=
    fun e => henter.work (detectBoth_works r first e x0 x1 _)
  have hentered : ∀ e, ((detectBoth r first e x0 x1 (enterStarted r x0 x1 s)).rd r).entered = (s.rd r).entered + 1 :=
    fun e => (congrArg Reader.entered (hdetect e).still :)
  unfold entryRunning
  dsimp only
  refine monitorAtEntry_spares _ r _ ?_
  rw [State.rd_onReader_self, ← hentered]
  exact tableAtEntry_notDue r _

theorem entryBypassed_notDue (r : ReaderId) (x0 x1 : Sample) (s : State) :
    ∀ d ∈ ((entryBypassed r x0 x1 s).rd r).table, d.NotDue ((s.rd r).entered + 1) := by
  have hentered : ((enterStarted r x0 x1 s).rd r).entered = (s.rd r).entered + 1 :=
    (congrArg Reader.entered (enterStarted_yields r x0 x1 s).still :)
  unfold entryBypassed
  dsimp only
  refine monitorAtEntry_spares _ r _ ?_
  rw [State.rd_onReader_self, ← hentered]
  exact tableAtEntry_notDue r _

/-- What the rows of the commits leave of the rest of the reader and of the other. -/
theorem beside_of_works {r : ReaderId} {s u : State} (hworks : Works r s u)
    (hother : (u.rd (otherReader r)).calm = (s.rd (otherReader r)).calm) :
    (∀ l : Lane, ((u.rd r).lane l).hum = ((s.rd r).lane l).hum ∧ ((u.rd r).lane l).hiss = ((s.rd r).lane l).hiss ∧
        ((u.rd r).lane l).stuck = ((s.rd r).lane l).stuck) ∧
      (u.rd r).entered = (s.rd r).entered ∧ (u.rd r).monitor = (s.rd r).monitor ∧ (u.rd r).hum = (s.rd r).hum ∧
      (u.rd r).schedule = (s.rd r).schedule ∧ (u.rd r).exclusions = (s.rd r).exclusions ∧ (u.rd r).params = (s.rd r).params ∧
      (u.rd (otherReader r)).calm = (s.rd (otherReader r)).calm := by
  have hstill := hworks.still
  refine ⟨fun l => ?_, (congrArg Reader.entered hstill :), (congrArg Reader.monitor hstill :), (congrArg Reader.hum hstill :),
    (congrArg Reader.schedule hstill :), (congrArg Reader.exclusions hstill :), (congrArg Reader.params hstill :), hother⟩
  cases l
  · exact ⟨(congrArg (fun rd => rd.lane0.hum) hstill :), (congrArg (fun rd => rd.lane0.hiss) hstill :),
      (congrArg (fun rd => rd.lane0.stuck) hstill :)⟩
  · exact ⟨(congrArg (fun rd => rd.lane1.hum) hstill :), (congrArg (fun rd => rd.lane1.hiss) hstill :),
      (congrArg (fun rd => rd.lane1.stuck) hstill :)⟩

theorem DueCommitted.of_calm {due : Defect → Bool} {a b c : Reader} (h : DueCommitted due a b) (hcalm : c.calm = b.calm) :
    DueCommitted due a c := by
  have hlane : ∀ l, c.lane l = b.lane l := fun l => by
    cases l
    · exact (congrArg Reader.lane0 hcalm :)
    · exact (congrArg Reader.lane1 hcalm :)
  have htable : c.table = b.table := (congrArg Reader.table hcalm :)
  refine ⟨htable ▸ h.length, htable ▸ h.entry, fun l p => ?_⟩
  rw [hlane]
  exact h.window l p

/-- The row of a commit, where it acts. -/
theorem exec_commit {r : ReaderId} {c : Instr} {s : State} (due : Defect → Bool) (hclock : (s.rd r).clockLost = false)
    (hstate : (s.rd r).state = .running ∨ (s.rd r).state = .bypassed)
    (hrow : (c = .postContextComplete r ∧
        due = fun d => d.state == .closed && decide (d.spanEnd + (d.spanEnd + 1 - d.spanStart) < (s.rd r).entered)) ∨
      (c = .cutCommitAtB r ∧ due = fun d => d.state == .closed && d.cut && decide (d.spanEnd + 1 < (s.rd r).entered)) ∨
      (c = .windowDeadline r ∧ due = fun d => d.state != .committed && decide (d.spanStart + 1023 < (s.rd r).entered))) :
    ∃ u, exec c s = .next u.arbitrate ∧ Works r s u ∧ Within r s u ∧ DueCommitted due (s.rd r) (u.rd r) := by
  have hacts := Reader.eventsAct_of hclock hstate
  have hif : ∀ t : State, (if (s.rd r).eventsAct then t else s) = t := fun t => if_pos hacts
  rcases hrow with ⟨rfl, rfl⟩ | ⟨rfl, rfl⟩ | ⟨rfl, rfl⟩
  · refine ⟨_, congrArg (fun t : State => Host.Outcome.next t.arbitrate) (hif _), commitDue_works r _ s, commitDue_within r _ s,
      commitDue_commits r _ _ s (fun _ => rfl) fun d hd => ?_⟩
    exact eq_of_beq (Bool.and_eq_true_iff.mp hd).1
  · refine ⟨_, congrArg (fun t : State => Host.Outcome.next t.arbitrate) (hif _), commitDue_works r _ s, commitDue_within r _ s,
      commitDue_commits r _ _ s (fun _ => rfl) fun d hd => ?_⟩
    exact eq_of_beq (Bool.and_eq_true_iff.mp (Bool.and_eq_true_iff.mp hd).1).1
  · exact ⟨_, congrArg (fun t : State => Host.Outcome.next t.arbitrate) (hif _), deadlinePasses_works r s,
      deadlinePasses_within r s, deadlinePasses_commits r s⟩

/-- Settles O48: the rows commit position by position, and no later part of an entry event makes an entry due. -/
theorem dueEntriesCommit : Obligations.DueEntriesCommit := by
  unfold Obligations.DueEntriesCommit
  refine ⟨fun r c due s hclock hstate hrow => ?rows, fun r x0 x1 first s hclock hstate => ?entry⟩
  case rows =>
    obtain ⟨u, hu, hworks, hwithin, hcommits⟩ := exec_commit due hclock hstate hrow
    have hcalm := (State.arbitrate_settles u).1.calm
    obtain ⟨hlength, hentry, hwindow⟩ := hcommits.of_calm (hcalm r)
    refine ⟨u.arbitrate, hu, hlength, fun k d hd => ?_, hwindow,
      beside_of_works hworks.arbitrate ((hcalm _).trans hwithin.other)⟩
    obtain ⟨d', hd', hone⟩ := hentry k d hd
    refine ⟨d', hd', ?_⟩
    split at hone
    · rename_i hdue
      rw [if_pos hdue]
      exact ⟨hone.state, hone.method, hone.lanes, hone.kind, hone.peak, hone.spanStart, hone.spanEnd⟩
    · rename_i hnot
      rw [if_neg hnot]
      exact hone
  case entry =>
    have hcalm := (State.arbitrate_settles (entryEvent r x0 x1 first s)).1.calm r
    have htable : ((entryEvent r x0 x1 first s).arbitrate.rd r).table = ((entryEvent r x0 x1 first s).rd r).table :=
      (congrArg Reader.table hcalm :)
    have hevent : (entryEvent r x0 x1 first s = entryRunning r x0 x1 first s ∨ entryEvent r x0 x1 first s = entryBypassed r x0 x1 s) ∧
        ∃ t, exec (.entryEvent r x0 x1 first) s = .next t ∧ (t.rd r).entered = (s.rd r).entered + 1 := by
      unfold entryEvent
      rw [if_neg (by simp [hclock])]
      rcases hstate with hstate | hstate
      · obtain ⟨t, ht, hyields, _⟩ := exec_entry_running x0 x1 first hclock hstate
        rw [hstate]
        exact ⟨.inl rfl, t, ht, (congrArg Reader.entered hyields.still).trans (congrArg Reader.entered (Reader.besideFrame_monitored _) :)⟩
      · obtain ⟨t, ht, hyields, _⟩ := exec_entry_bypassed x0 x1 first hclock hstate
        rw [hstate]
        exact ⟨.inr rfl, t, ht, (congrArg Reader.entered hyields.still).trans (congrArg Reader.entered (Reader.besideFrame_monitored _) :)⟩
    obtain ⟨hbody, t, ht, hentered⟩ := hevent
    obtain rfl : (entryEvent r x0 x1 first s).arbitrate = t := Host.Outcome.next.inj ht
    refine ⟨_, rfl, fun d hd => ?_⟩
    dsimp only
    rw [hentered]
    rw [htable] at hd
    rcases hbody with hbody | hbody
    · exact entryRunning_notDue r x0 x1 first s d (hbody ▸ hd)
    · exact entryBypassed_notDue r x0 x1 s d (hbody ▸ hd)

end Sys2Proof.Machine
end

section
/-! The splice schedule and the exclusion list at a real pulse (R90, R96, R97, R99, R104). -/

namespace Sys2Proof.Machine

/-! ## The frame count of a real pulse (R24) -/

theorem Monitor.frameCount_reject (m : Monitor) (p : ParamSet) (n : Nat) : (m.reject p n).monitor.frameCount = m.frameCount := by
  unfold Monitor.reject
  dsimp only
  split
  · split
    · rfl
    · split
      · split <;> rfl
      · rfl
  · rfl

theorem Monitor.frameCount_judgeSeeding (m : Monitor) (p : ParamSet) (i : Option Nat) :
    (m.judgeSeeding p i).monitor.frameCount = m.frameCount := by
  cases i with
  | none => rfl
  | some n =>
    unfold Monitor.judgeSeeding
    dsimp only
    split <;> rfl

theorem Monitor.frameCount_judge (m : Monitor) (p : ParamSet) (i : Option Nat) : (m.judge p i).monitor.frameCount = m.frameCount := by
  unfold Monitor.judge
  split
  · cases i with
    | none => rfl
    | some n =>
      unfold Monitor.judgeTracking
      dsimp only
      split
      · rfl
      · exact m.frameCount_reject p n
  · rfl
  · exact m.frameCount_judgeSeeding p i
  · exact m.frameCount_judgeSeeding p i

theorem Reader.frameCount_pulseOutcome (rd : Reader) :
    rd.pulseOutcome.monitor.frameCount = min (rd.monitor.frameCount + 1) (2 ^ 32 - 1) := by
  rw [Reader.monitor_pulseOutcome]
  exact Monitor.frameCount_judge _ _ _

theorem Reader.frameCount_monitorAfterApply (rd : Reader) (m : Monitor) : (rd.monitorAfterApply m).frameCount = m.frameCount := by
  unfold Reader.monitorAfterApply
  split <;> rfl

/-! ## The schedule in its order -/

theorem scheduleAfter_eq {c : Nat} {lost : Bool} {schedule : List SpliceEntry}
    (hsorted : schedule.Pairwise fun x y => x.due < y.due) :
    scheduleAfter c lost schedule = schedule.filter fun x => c < x.due || (x.due == c && lost) := by
  induction schedule with
  | nil => rfl
  | cons x rest ih =>
    obtain ⟨hbehind, hrest⟩ := List.pairwise_cons.mp hsorted
    by_cases hpassed : x.due < c
    · have hdrop : scheduleAfter c lost (x :: rest) = scheduleAfter c lost rest := by
        unfold scheduleAfter
        rw [List.dropWhile_cons_of_pos (by simpa using hpassed)]
      have hnot : (decide (c < x.due) || (x.due == c && lost)) = false := by
        simp only [Bool.or_eq_false_iff, Bool.and_eq_false_iff, decide_eq_false_iff_not, beq_eq_false_iff_ne]
        exact ⟨by omega, .inl (by omega)⟩
      rw [hdrop, ih hrest, List.filter_cons_of_neg (by simp [hnot])]
    · have hall : rest.filter (fun y => c < y.due || (y.due == c && lost)) = rest := by
        refine List.filter_eq_self.mpr fun y hy => ?_
        have := hbehind y hy
        simp only [Bool.or_eq_true, decide_eq_true_eq]
        omega
      unfold scheduleAfter
      rw [List.dropWhile_cons_of_neg (by simpa using hpassed)]
      dsimp only
      by_cases hdue : x.due = c ∧ lost = false
      · rw [if_pos hdue, List.filter_cons_of_neg (by simp [hdue.1, hdue.2]), hall]
      · have hkeep : (decide (c < x.due) || (x.due == c && lost)) = true := by
          simp only [Bool.or_eq_true, Bool.and_eq_true, decide_eq_true_eq, beq_iff_eq]
          by_cases hc : x.due = c
          · exact .inr ⟨hc, by simpa using fun h => hdue ⟨hc, h⟩⟩
          · exact .inl (by omega)
        rw [if_neg hdue, List.filter_cons_of_pos (p := fun x : SpliceEntry => decide (c < x.due) || (x.due == c && lost)) hkeep, hall]

theorem takeWhile_passed {c : Nat} {schedule : List SpliceEntry} (hsorted : schedule.Pairwise fun x y => x.due < y.due) :
    (schedule.takeWhile fun x => x.due < c) = schedule.filter fun x => x.due < c := by
  induction schedule with
  | nil => rfl
  | cons x rest ih =>
    obtain ⟨hbehind, hrest⟩ := List.pairwise_cons.mp hsorted
    by_cases hpassed : x.due < c
    · rw [List.takeWhile_cons_of_pos (by simpa using hpassed), List.filter_cons_of_pos (by simpa using hpassed), ih hrest]
    · rw [List.takeWhile_cons_of_neg (by simpa using hpassed), List.filter_cons_of_neg (by simpa using hpassed)]
      refine (List.filter_eq_nil_iff.mpr fun y hy => ?_).symm
      have := hbehind y hy
      simp only [decide_eq_true_eq]
      omega

/-! ## The reader's lists behind a real pulse -/

theorem Reader.frameCount_pulsed (rd : Reader) : rd.pulsed.monitor.frameCount = min (rd.monitor.frameCount + 1) (2 ^ 32 - 1) := by
  rw [Reader.pulsed_eq, Reader.monitor_measured, Reader.frameCount_pulseOutcome]

theorem Reader.lists_atPulse {rd : Reader} (h : rd.started = true) :
    (rd.pulsed.atFrame .pulse).schedule = scheduleAfter (min (rd.monitor.frameCount + 1) (2 ^ 32 - 1)) rd.clockLost rd.schedule ∧
      (rd.pulsed.atFrame .pulse).exclusions =
        rd.exclusions.filter fun x => min (rd.monitor.frameCount + 1) (2 ^ 32 - 1) ≤ x.last := by
  have hframe : (rd.pulsed.atFrame .tick).besideFrame = rd.besideFrame :=
    (Reader.besideFrame_tick _).trans (Reader.besideFrame_of_besideHum rd.besideHum_pulsed)
  have hcount : (rd.pulsed.atFrame .tick).monitor.frameCount = min (rd.monitor.frameCount + 1) (2 ^ 32 - 1) := by
    rw [Reader.monitor_atFrame ((Reader.started_of_besideHum rd.besideHum_pulsed).trans h),
      Reader.frameCount_monitorAfterApply, Reader.frameCount_pulsed]
  have hbehind : rd.pulsed.atFrame .pulse = (rd.pulsed.atFrame .tick).scheduled.expired := rfl
  rw [hbehind, ← hcount]
  generalize rd.pulsed.atFrame .tick = u at hframe
  have hschedule : u.schedule = rd.schedule := (congrArg Reader.schedule hframe :)
  have hclock : u.clockLost = rd.clockLost := (congrArg Reader.clockLost hframe :)
  have hexclusions : u.exclusions = rd.exclusions := (congrArg Reader.exclusions hframe :)
  rw [← hschedule, ← hclock, ← hexclusions]
  exact ⟨rfl, rfl⟩

/-! ## The MISSED records of the splices that a pulse passes (R90) -/

theorem min_succ_min (a k hi : Nat) : min (min (a + 1) hi + k) hi = min (a + (k + 1)) hi := by omega

/-- The DFCT body of a reader's i-th MISSED splice from here on, formed at t. -/
def Reader.missedBody (rd : Reader) (t i : Nat) : ReportBody :=
  .dfct { rd.missedFields t with number := rd.nextNumber + i, gapBefore := rd.gap && i == 0 }

theorem ReportQueue.dfcts_fill (q : ReportQueue) (x : Record) :
    (q.fill x).dfcts = if x.body.isDfct then q.dfcts ++ [(x.reader, x.body)] else q.dfcts := by
  unfold ReportQueue.dfcts
  rw [(ReportQueue.bodies_fill _ _).1, List.filter_append]
  cases hbody : x.body.isDfct <;> simp [hbody]

/-- The places that k more DFCT records need are free. -/
structure State.Room (s : State) (k : Nat) : Prop where
  placeHeld : s.queue.placeHeld = false
  dfcts : s.queue.dfcts.length + k ≤ 56
  load : s.load + k ≤ 64

theorem State.Room.grants {s : State} {k : Nat} (h : s.Room (k + 1)) : s.queue.grants = true := by
  have hdfcts := h.dfcts
  have hload := h.load
  have hlength : s.queue.records.length ≤ s.load := Nat.le_add_right _ _
  rw [ReportQueue.length_dfcts] at hdfcts
  rw [ReportQueue.grants_iff, ReportQueue.dfctOccupied, ReportQueue.occupied, h.placeHeld]
  simp only [Bool.toNat_false, Nat.add_zero]
  omega

/-- A MISSED record where its place is granted. -/
theorem missFirst_granted {r : ReaderId} {k : Nat} {s : State} (t : Nat) (h : s.Room (k + 1)) :
    (missFirst r t s).Room k ∧ (missFirst r t s).queue.dfcts = s.queue.dfcts ++ [(r, .dfct ((s.rd r).missedFields t))] ∧
      ((missFirst r t s).rd r).calm = ({ (s.rd r).recordMissed with schedule := (s.rd r).schedule.tail } : Reader).calm := by
  obtain ⟨v, hv⟩ : ∃ v, v = ((s.onReader r fun x => { x with schedule := x.schedule.tail }).onReader r Reader.recordMissed).onQueue
      fun q => q.hold.fill { reader := r, lost := false, body := .dfct ((s.rd r).missedFields t) } := ⟨_, rfl⟩
  have hmissed : missFirst r t s = v.evaluateWatches := by
    have hgrants : (s.onReader r fun x => { x with schedule := x.schedule.tail }).queue.grants = true := by
      rw [State.onReader_queue]
      exact h.grants
    refine congrArg State.evaluateWatches ((reportMissed_eq r t _).trans ((if_pos hgrants).trans ?_))
    rw [hv, State.rd_onReader_self]
    rfl
  have hqueue : v.queue = s.queue.hold.fill { reader := r, lost := false, body := .dfct ((s.rd r).missedFields t) } := by
    rw [hv, State.onQueue_queue, State.onReader_queue, State.onReader_queue]
  have hreader : v.rd r = { (s.rd r).recordMissed with schedule := (s.rd r).schedule.tail } := by
    rw [hv, State.rd_onQueue, State.rd_onReader_self, State.rd_onReader_self]
    rfl
  have hdfcts : v.queue.dfcts = s.queue.dfcts ++ [(r, .dfct ((s.rd r).missedFields t))] := by
    rw [hqueue, ReportQueue.dfcts_fill]
    rfl
  have hload : v.load = s.load + 1 := by
    have hwatches : v.readerA.watch = s.readerA.watch ∧ v.readerB.watch = s.readerB.watch := by
      rw [hv]
      cases r <;> exact ⟨rfl, rfl⟩
    unfold State.load
    rw [hwatches.1, hwatches.2, hqueue]
    simp only [ReportQueue.fill, ReportQueue.hold, List.length_append, List.length_cons, List.length_nil]
    omega
  have hsettles := v.evaluateWatches_settles
  obtain ⟨_, hroom, hplaces⟩ := h
  rw [hmissed, dfcts_of_settles hsettles, hdfcts]
  refine ⟨⟨?_, ?_, ?_⟩, rfl, (hsettles.1.calm r).trans (by rw [hreader])⟩
  · rw [hsettles.1.placeHeld, hqueue]
    rfl
  · rw [dfcts_of_settles hsettles, hdfcts, List.length_append, List.length_singleton]
    omega
  · have := v.load_evaluateWatches
    omega

/-- A MISSED record where its place is refused (R79, R90). -/
theorem missFirst_refused {r : ReaderId} {s : State} (t : Nat) (h : 56 ≤ s.queue.dfctOccupied) :
    56 ≤ (missFirst r t s).queue.dfctOccupied ∧ (missFirst r t s).queue.dfcts = s.queue.dfcts ∧
      ((missFirst r t s).rd r).calm = ({ (s.rd r).countUnrecorded with schedule := (s.rd r).schedule.tail } : Reader).calm := by
  obtain ⟨v, hv⟩ : ∃ v, v = (s.onReader r fun x => { x with schedule := x.schedule.tail }).onReader r Reader.countUnrecorded := ⟨_, rfl⟩
  have hmissed : missFirst r t s = v.evaluateWatches := by
    have hgrants : ¬ (s.onReader r fun x => { x with schedule := x.schedule.tail }).queue.grants = true := by
      rw [State.onReader_queue, ReportQueue.grants_iff]
      omega
    exact congrArg State.evaluateWatches ((reportMissed_eq r t _).trans ((if_neg hgrants).trans hv.symm))
  have hqueue : v.queue = s.queue := by rw [hv, State.onReader_queue, State.onReader_queue]
  have hreader : v.rd r = { (s.rd r).countUnrecorded with schedule := (s.rd r).schedule.tail } := by
    rw [hv, State.rd_onReader_self, State.rd_onReader_self]
    rfl
  have hsettles := v.evaluateWatches_settles
  have hdfcts : v.evaluateWatches.queue.dfcts = s.queue.dfcts := by rw [dfcts_of_settles hsettles, hqueue]
  rw [hmissed]
  refine ⟨?_, hdfcts, (hsettles.1.calm r).trans (by rw [hreader])⟩
  rw [ReportQueue.dfctOccupied, ← ReportQueue.length_dfcts] at h ⊢
  rwa [hdfcts, hsettles.1.placeHeld, hqueue]

/-- How many splices of the schedule a pulse passes. -/
def Reader.passedCount (rd : Reader) : Nat := (rd.schedule.takeWhile fun x => x.due < rd.monitor.frameCount).length

/-- The reader and the DFCT records behind k MISSED records that are granted. -/
structure MissedGranted (r : ReaderId) (t k : Nat) (s v : State) : Prop where
  dfcts : v.queue.dfcts = s.queue.dfcts ++ (List.range k).map fun i => (r, (s.rd r).missedBody t i)
  nextNumber : (v.rd r).nextNumber = (s.rd r).nextNumber + k
  committedTotal : (v.rd r).committedTotal = min ((s.rd r).committedTotal + k) (2 ^ 32 - 1)
  gap : (v.rd r).gap = ((s.rd r).gap && k == 0)
  unrecorded : (v.rd r).unrecorded = (s.rd r).unrecorded

/-- The reader and the DFCT records behind k MISSED records that are refused. -/
structure MissedRefused (r : ReaderId) (k : Nat) (s v : State) : Prop where
  dfcts : v.queue.dfcts = s.queue.dfcts
  nextNumber : (v.rd r).nextNumber = (s.rd r).nextNumber
  unrecorded : (v.rd r).unrecorded = min ((s.rd r).unrecorded + k) 65535
  gap : (v.rd r).gap = ((s.rd r).gap || decide (0 < k))

theorem MissedGranted.none (r : ReaderId) (t : Nat) {s : State} (h : (s.rd r).committedTotal < 2 ^ 32) : MissedGranted r t 0 s s :=
  ⟨by simp, rfl, (Nat.min_eq_left (Nat.le_pred_of_lt h)).symm, by simp, rfl⟩

theorem MissedRefused.none {r : ReaderId} {s : State} (h : (s.rd r).unrecorded ≤ 65535) : MissedRefused r 0 s s :=
  ⟨rfl, rfl, (Nat.min_eq_left h).symm, by simp⟩

/-- The work of a pulse on the passed splices, at its first splice. -/
theorem missPassed_succ (r : ReaderId) (t n : Nat) (s : State) :
    ((s.rd r).passedCount = 0 ∧ missPassed r t (n + 1) s = s) ∨
      ∃ k, (s.rd r).passedCount = k + 1 ∧ missPassed r t (n + 1) s = missPassed r t n (missFirst r t s) ∧
        ∀ x : Reader, ({ x with schedule := (s.rd r).schedule.tail, monitor := (s.rd r).monitor } : Reader).passedCount = k := by
  unfold Reader.passedCount
  cases hschedule : (s.rd r).schedule with
  | nil =>
    refine .inl ⟨rfl, ?_⟩
    unfold missPassed
    rw [hschedule]
  | cons x rest =>
    by_cases hpassed : x.due < (s.rd r).monitor.frameCount
    · refine .inr ⟨(rest.takeWhile fun x => x.due < (s.rd r).monitor.frameCount).length, ?_, ?_, fun _ => rfl⟩
      · rw [List.takeWhile_cons_of_pos (by simpa using hpassed), List.length_cons]
      · conv_lhs => unfold missPassed
        rw [hschedule]
        exact if_pos hpassed
    · refine .inl ⟨?_, ?_⟩
      · rw [List.takeWhile_cons_of_neg (by simpa using hpassed), List.length_nil]
      · unfold missPassed
        rw [hschedule]
        exact if_neg hpassed

theorem Reader.passedCount_of_calm {a b : Reader} (h : a.calm = b.calm) : a.passedCount = b.passedCount :=
  (congrArg Reader.passedCount h : a.calm.passedCount = b.calm.passedCount)

theorem Reader.passedCount_eq_zero {rd : Reader} (h : rd.schedule.length ≤ 0) : rd.passedCount = 0 := by
  unfold Reader.passedCount
  rw [List.length_eq_zero_iff.mp (Nat.le_zero.mp h)]
  rfl

/-- The body of the i-th MISSED record behind the first. -/
theorem Reader.missedBody_succ {rd rd' : Reader} (h : rd'.calm = ({ rd.recordMissed with schedule := rd.schedule.tail } : Reader).calm)
    (hnumber : rd.nextNumber < 2 ^ 32 - 1) (t i : Nat) : rd'.missedBody t i = rd.missedBody t (i + 1) := by
  have hnext : rd'.nextNumber = rd.nextNumber + 1 :=
    (congrArg Reader.nextNumber h :).trans (if_neg (Nat.not_le_of_lt hnumber))
  have hgap : rd'.gap = false := (congrArg Reader.gap h :)
  have hmonitor : rd'.monitor = rd.monitor := (congrArg Reader.monitor h :)
  unfold Reader.missedBody Reader.missedFields
  rw [hnext, hgap, hmonitor, Nat.add_assoc, Nat.add_comm 1 i]
  simp

theorem missPassed_granted {r : ReaderId} {t : Nat} (n : Nat) {k : Nat} {s : State} (hn : (s.rd r).schedule.length ≤ n)
    (hk : (s.rd r).passedCount = k) (hroom : s.Room k) (hnumber : (s.rd r).nextNumber + k < 2 ^ 32)
    (htotal : (s.rd r).committedTotal < 2 ^ 32) : MissedGranted r t k s (missPassed r t n s) := by
  induction n generalizing k s with
  | zero =>
    rw [Reader.passedCount_eq_zero hn] at hk
    subst hk
    exact .none r t htotal
  | succ n ih =>
    rcases missPassed_succ r t n s with ⟨hzero, hself⟩ | ⟨k', hcount, hrest, htail⟩
    · rw [hself, ← hk, hzero]
      exact .none r t htotal
    · obtain rfl : k = k' + 1 := hk.symm.trans hcount
      obtain ⟨hroom', hdfcts, hcalm⟩ := missFirst_granted (r := r) t hroom
      have hnext : ((missFirst r t s).rd r).nextNumber = (s.rd r).nextNumber + 1 :=
        (congrArg Reader.nextNumber hcalm :).trans (if_neg (by omega))
      have htotal' : ((missFirst r t s).rd r).committedTotal = min ((s.rd r).committedTotal + 1) (2 ^ 32 - 1) :=
        (congrArg Reader.committedTotal hcalm :)
      have hgap : ((missFirst r t s).rd r).gap = false := (congrArg Reader.gap hcalm :)
      have hunrecorded : ((missFirst r t s).rd r).unrecorded = (s.rd r).unrecorded := (congrArg Reader.unrecorded hcalm :)
      have hschedule : ((missFirst r t s).rd r).schedule = (s.rd r).schedule.tail := (congrArg Reader.schedule hcalm :)
      have hbehind := ih (k := k') (s := missFirst r t s) (by rw [hschedule, List.length_tail]; omega)
        ((Reader.passedCount_of_calm hcalm).trans (htail _)) hroom' (by rw [hnext]; omega)
        (htotal' ▸ Nat.lt_of_le_of_lt (Nat.min_le_right _ _) (by decide))
      rw [hrest]
      refine ⟨?_, ?_, ?_, ?_, ?_⟩
      · have hbody : (.dfct ((s.rd r).missedFields t) : ReportBody) = (s.rd r).missedBody t 0 := by
          unfold Reader.missedBody Reader.missedFields
          simp
        rw [hbehind.dfcts, hdfcts, List.range_succ_eq_map, List.map_cons, List.map_map, List.append_assoc, hbody]
        refine congrArg (s.queue.dfcts ++ (r, _) :: ·) (List.map_congr_left fun i _ => ?_)
        exact congrArg (Prod.mk r) (Reader.missedBody_succ hcalm (by omega) t i)
      · rw [hbehind.nextNumber, hnext]
        omega
      · rw [hbehind.committedTotal, htotal', min_succ_min]
      · rw [hbehind.gap, hgap]
        simp
      · rw [hbehind.unrecorded, hunrecorded]

theorem missPassed_refused {r : ReaderId} {t : Nat} (n : Nat) {k : Nat} {s : State} (hn : (s.rd r).schedule.length ≤ n)
    (hk : (s.rd r).passedCount = k) (hfull : 56 ≤ s.queue.dfctOccupied) (hunrecorded : (s.rd r).unrecorded ≤ 65535) :
    MissedRefused r k s (missPassed r t n s) := by
  induction n generalizing k s with
  | zero =>
    rw [Reader.passedCount_eq_zero hn] at hk
    subst hk
    exact .none hunrecorded
  | succ n ih =>
    rcases missPassed_succ r t n s with ⟨hzero, hself⟩ | ⟨k', hcount, hrest, htail⟩
    · rw [hself, ← hk, hzero]
      exact .none hunrecorded
    · obtain rfl : k = k' + 1 := hk.symm.trans hcount
      obtain ⟨hfull', hdfcts, hcalm⟩ := missFirst_refused (r := r) t hfull
      have hnext : ((missFirst r t s).rd r).nextNumber = (s.rd r).nextNumber := (congrArg Reader.nextNumber hcalm :)
      have hcounted : ((missFirst r t s).rd r).unrecorded = min ((s.rd r).unrecorded + 1) 65535 :=
        (congrArg Reader.unrecorded hcalm :)
      have hgap : ((missFirst r t s).rd r).gap = true := (congrArg Reader.gap hcalm :)
      have hschedule : ((missFirst r t s).rd r).schedule = (s.rd r).schedule.tail := (congrArg Reader.schedule hcalm :)
      have hbehind := ih (k := k') (s := missFirst r t s) (by rw [hschedule, List.length_tail]; omega)
        ((Reader.passedCount_of_calm hcalm).trans (htail _)) hfull'
        (hcounted ▸ Nat.min_le_right _ _)
      rw [hrest]
      refine ⟨hbehind.dfcts.trans hdfcts, hbehind.nextNumber.trans hnext, ?_, ?_⟩
      · rw [hbehind.unrecorded, hcounted, min_succ_min]
      · rw [hbehind.gap, hgap]
        simp

/-! ## The pulse up to the splice schedule -/

/-- What the monitor's and the hum canceller's part of a pulse leaves of the reader, but for the count. -/
structure PulseBehind (r : ReaderId) (s w : State) : Prop where
  rests : Rests r 3 s w
  beside : (w.rd r).still.besideHum = (s.rd r).still.besideHum
  frameCount : (w.rd r).monitor.frameCount = min ((s.rd r).monitor.frameCount + 1) (2 ^ 32 - 1)

theorem Reader.besideHum_still {a b : Reader} (h : a.besideHum = b.besideHum) : a.still.besideHum = b.still.besideHum :=
  show a.besideHum.still.besideHum = b.besideHum.still.besideHum from h ▸ rfl

theorem exec_pulse_behind {r : ReaderId} {s : State} (hstate : (s.rd r).state = .running ∨ (s.rd r).state = .bypassed)
    (h : (s.rd r).params.releases = false) :
    ∃ w, PulseBehind r s w ∧ exec (.realPulse r) s = .next (expireExclusions r (scheduleAtPulse r w)).arbitrate := by
  obtain ⟨w, hrests, hyields, hexec⟩ := exec_pulse_withheld hstate h
  refine ⟨w, ⟨hrests, ?_, ?_⟩, hexec⟩
  · rw [hyields.still]
    exact Reader.besideHum_still ((Reader.besideHum_humCounted _).trans (s.rd r).besideHum_pulsed)
  · have hmonitor : (w.rd r).monitor = (s.rd r).pulsed.monitor :=
      (congrArg Reader.monitor hyields.still).trans (Reader.monitor_humCounted _)
    rw [hmonitor, Reader.frameCount_pulsed]

theorem PulseBehind.schedule {r : ReaderId} {s w : State} (h : PulseBehind r s w) : (w.rd r).schedule = (s.rd r).schedule :=
  (congrArg Reader.schedule h.beside :)

theorem PulseBehind.clockLost {r : ReaderId} {s w : State} (h : PulseBehind r s w) : (w.rd r).clockLost = (s.rd r).clockLost :=
  (congrArg Reader.clockLost h.beside :)

theorem PulseBehind.entered {r : ReaderId} {s w : State} (h : PulseBehind r s w) : (w.rd r).entered = (s.rd r).entered :=
  (congrArg Reader.entered h.beside :)

theorem PulseBehind.params {r : ReaderId} {s w : State} (h : PulseBehind r s w) : (w.rd r).params = (s.rd r).params :=
  (congrArg Reader.params h.beside :)

theorem PulseBehind.table {r : ReaderId} {s w : State} (h : PulseBehind r s w) : (w.rd r).table = (s.rd r).table :=
  congrArg Moving.table h.rests.moving

/-- A pulse that finds the head of the schedule due. -/
theorem PulseBehind.due {r : ReaderId} {s w : State} (h : PulseBehind r s w) {x : SpliceEntry} {rest : List SpliceEntry}
    (hschedule : (s.rd r).schedule = x :: rest) (hdue : x.due = min ((s.rd r).monitor.frameCount + 1) (2 ^ 32 - 1))
    (hclock : (s.rd r).clockLost = false) :
    scheduleAtPulse r w = openSplice r (s.rd r).entered (w.onReader r fun y => { y with schedule := rest }) := by
  have hw : (w.rd r).schedule = x :: rest := h.schedule.trans hschedule
  have hcount : x.due = (w.rd r).monitor.frameCount := hdue.trans h.frameCount.symm
  have hpassed : missPassed r (w.rd r).entered (w.rd r).schedule.length w = w := by
    rw [hw, List.length_cons]
    unfold missPassed
    rw [hw]
    exact if_neg (by omega)
  unfold scheduleAtPulse openDue
  dsimp only
  rw [hpassed, hw, h.entered]
  exact if_pos ⟨hcount, h.clockLost.trans hclock⟩

/-- A pulse that finds no splice due. -/
theorem PulseBehind.not_due {r : ReaderId} {s w : State} (h : PulseBehind r s w)
    (hnone : ∀ x ∈ (s.rd r).schedule, x.due ≠ min ((s.rd r).monitor.frameCount + 1) (2 ^ 32 - 1)) :
    scheduleAtPulse r w = missPassed r (s.rd r).entered (s.rd r).schedule.length w := by
  have hpassed := missPassed_yields r (w.rd r).entered (w.rd r).schedule.length w le_rfl
  have hschedule : ((missPassed r (w.rd r).entered (w.rd r).schedule.length w).rd r).schedule =
      (w.rd r).schedule.dropWhile fun x => x.due < (w.rd r).monitor.frameCount := (congrArg Reader.schedule hpassed.still :)
  have hcount : ((missPassed r (w.rd r).entered (w.rd r).schedule.length w).rd r).monitor.frameCount =
      (w.rd r).monitor.frameCount := (congrArg (fun x => x.monitor.frameCount) hpassed.still :)
  unfold scheduleAtPulse openDue
  dsimp only
  rw [← h.entered, ← h.schedule]
  split
  · rfl
  · rename_i x rest hhead
    have hmem : x ∈ (w.rd r).schedule := by
      have := hschedule ▸ hhead
      exact (List.dropWhile_sublist _).subset (this ▸ List.mem_cons_self)
    refine if_neg fun hdue => hnone x (h.schedule ▸ hmem) ?_
    rw [hdue.1, hcount, h.frameCount]

/-- The exclusion list's part of a pulse, and the arbiter. -/
theorem expire_rests (r : ReaderId) (u : State) : Rests r 0 u (expireExclusions r u).arbitrate :=
  ((Rests.refl r u).onReader (f := fun x => { x with exclusions := x.exclusions.filter fun y => x.monitor.frameCount ≤ y.last })
    rfl rfl rfl).arbitrate

theorem expire_schedule (r : ReaderId) (u : State) : (((expireExclusions r u).arbitrate).rd r).schedule = (u.rd r).schedule :=
  (congrArg Reader.schedule ((expireExclusions_yields r u).arbitrate).still :)

/-! ## A due splice -/

/-- The reader with the absorbed entries freed, and one of them counted where the splice does not hold it all (R97). -/
def Reader.freed (rd : Reader) (a : Absorption) (counts : Bool) : Reader :=
  if counts then (rd.freeAbsorbed a).countUnrecorded else rd.freeAbsorbed a

theorem State.freed_eq (s : State) (r : ReaderId) (a : Absorption) (counts : Bool) :
    (if counts then (s.onReader r fun x => x.freeAbsorbed a).onReader r Reader.countUnrecorded
      else s.onReader r fun x => x.freeAbsorbed a) = s.onReader r fun x => x.freed a counts := by
  cases counts
  · rfl
  · exact State.onReader_onReader s r _ _

/-- A due splice whose clipped span is not empty (R97 to R99). -/
theorem openSplice_of_span {r : ReaderId} {t first : Nat} {a : Absorption} {s : State} (ha : (s.rd r).absorption t = a)
    (hfirst : clippedStart a.remaining a.first a.last = first) (h : first ≤ a.last) :
    openSplice r t s =
      (fileSplice r first a.last (s.onReader r fun x => x.freed a (a.absorbed.any fun d => d.spanStart < first))).evaluateWatches := by
  unfold openSplice
  dsimp only
  rw [ha, hfirst, if_neg (Nat.not_lt.mpr h), State.freed_eq]

/-- A due splice whose clipped span is empty (R97, R98). -/
theorem openSplice_of_empty {r : ReaderId} {t first : Nat} {a : Absorption} {s : State} (ha : (s.rd r).absorption t = a)
    (hfirst : clippedStart a.remaining a.first a.last = first) (h : a.last < first) :
    openSplice r t s = (reportMissed r t (s.onReader r fun x => x.freed a (!a.absorbed.isEmpty))).evaluateWatches := by
  unfold openSplice
  dsimp only
  rw [ha, hfirst, if_pos h, ← State.freed_eq]
  cases a.absorbed.isEmpty <;> rfl

theorem Reader.table_freeAbsorbed (rd : Reader) (a : Absorption) : (rd.freeAbsorbed a).table = a.remaining := by
  unfold Reader.freeAbsorbed
  dsimp only
  have hidle : ∀ (x : Reader) (b : Bool) (l : Lane), (if b then x.idleLane l else x).table = x.table := fun x b l => by
    cases b
    · rfl
    · exact Reader.table_idleLane x l
  rw [hidle, hidle]

theorem Reader.table_freed (rd : Reader) (a : Absorption) (counts : Bool) : (rd.freed a counts).table = a.remaining := by
  unfold Reader.freed
  cases counts
  · exact rd.table_freeAbsorbed a
  · exact rd.table_freeAbsorbed a

/-! ## The splice that opens on an empty table (R97, R99) -/

theorem Reader.absorption_empty {rd : Reader} (h : rd.table = []) (t : Nat) :
    rd.absorption t = { first := t - rd.active.splicePre, last := t + rd.active.splicePost - 1, absorbed := [], remaining := [] } := by
  unfold Reader.absorption
  rw [h]
  rfl

theorem fileSplice_empty {r : ReaderId} {s : State} (h : (s.rd r).table = []) (first last : Nat) :
    ((fileSplice r first last s).rd r).table = [spliceEntry first last] := by
  have hclose : ∀ l, closeBefore r first s l = s := fun l => by
    unfold closeBefore
    rw [h]
    rfl
  have hlanes : (lanesByTable (s.rd r).table).foldl (closeBefore r first) s = s := by
    unfold lanesByTable
    split <;> simp only [List.foldl_cons, List.foldl_nil, hclose]
  unfold fileSplice
  dsimp only
  rw [hlanes, h, if_pos (by decide), State.rd_onReader_self]
  have hcut : ((cutEntries r (fun _ => true) (fun _ => false) s).rd r).table = [] := by
    rw [← List.length_eq_zero_iff, cutEntries_table_length, h]
    rfl
  rw [hcut]
  rfl

theorem openSplice_empty {r : ReaderId} {s : State} (h : (s.rd r).table = []) (hpost : 1 ≤ (s.rd r).active.splicePost) (t : Nat) :
    ((openSplice r t s).rd r).table = [spliceEntry (t - (s.rd r).active.splicePre) (t + (s.rd r).active.splicePost - 1)] := by
  rw [openSplice_of_span (Reader.absorption_empty h t) rfl (by dsimp only [clippedStart, List.foldl_nil]; omega),
    table_of_settles (State.evaluateWatches_settles _)]
  exact fileSplice_empty (by rw [State.rd_onReader_self, Reader.table_freed]) _ _

/-! ## The records of kind MISSED -/

def ReportBody.isMissed : ReportBody → Bool
  | .dfct f => f.method == .missed
  | _ => false

theorem ReportBody.isMissed_eq (b : ReportBody) : (match b with
    | .dfct f => f.method == .missed
    | _ => false) = b.isMissed := by
  cases b <;> rfl

theorem ReportQueue.missed_eq (q : ReportQueue) : q.bodies.filter (·.2.isMissed) = q.dfcts.filter (·.2.isMissed) := by
  unfold ReportQueue.dfcts
  rw [List.filter_filter]
  refine List.filter_congr fun x _ => ?_
  cases x.2 <;> simp [ReportBody.isMissed, ReportBody.isDfct]

/-- Settles O42: the schedule in its order, and the MISSED records splice by splice. -/
theorem pulseExpiresListsAndOpensDueSplice : Obligations.PulseExpiresListsAndOpensDueSplice := by
  unfold Obligations.PulseExpiresListsAndOpensDueSplice
  refine ⟨fun r s hstate hsorted => ?lists, fun r x rest s hstate hclock htable hschedule hdue hreleases hpost => ?opens,
    fun r s hstate hreleases hsorted hnone hunrecorded htotal => ?missed⟩
  case lists =>
    have hbrings : BringsFrame r (s.rd r) (.realPulse r) := .pulse hstate
    obtain ⟨t, ht, hyields, _⟩ := exec_frame hbrings
    obtain ⟨hschedule, hexclusions⟩ := Reader.lists_atPulse hbrings.started
    refine ⟨t, ht, ?_, ?_, ?_⟩
    · rw [monitor_frame hbrings hyields, Reader.frameCount_monitorAfterApply]
      exact (s.rd r).frameCount_pulseOutcome
    · exact ((congrArg Reader.schedule hyields.still).trans hschedule).trans (scheduleAfter_eq hsorted)
    · exact (congrArg Reader.exclusions hyields.still).trans hexclusions
  case opens =>
    obtain ⟨w, hw, hexec⟩ := exec_pulse_behind hstate hreleases
    obtain ⟨v, hv⟩ : ∃ v, v = w.onReader r fun y => { y with schedule := rest } := ⟨_, rfl⟩
    have hreader : v.rd r = { w.rd r with schedule := rest } := by rw [hv, State.rd_onReader_self]
    have hempty : (v.rd r).table = [] := by
      rw [hreader]
      exact hw.table.trans htable
    have hactive : (v.rd r).active = (s.rd r).active := by
      rw [hreader]
      exact congrArg (fun p : Params => p.setOf .active) hw.params
    have hdue' : scheduleAtPulse r w = openSplice r (s.rd r).entered v := (hw.due hschedule hdue hclock).trans (by rw [hv])
    rw [hdue'] at hexec
    refine ⟨_, hexec, ?_, ?_⟩
    · rw [expire_schedule, show ((openSplice r (s.rd r).entered v).rd r).schedule = (v.rd r).schedule from
        (congrArg Reader.schedule (openSplice_works r _ v).still :), hreader]
    · refine (congrArg Moving.table (expire_rests r _).moving).trans ((openSplice_empty hempty (hactive ▸ hpost) _).trans ?_)
      rw [hactive]
      rfl
  case missed =>
    obtain ⟨w, hw, hexec⟩ := exec_pulse_behind hstate hreleases
    rw [hw.not_due hnone] at hexec
    refine ⟨_, hexec, ?_⟩
    have hrests := expire_rests r (missPassed r (s.rd r).entered (s.rd r).schedule.length w)
    obtain ⟨v, hv⟩ : ∃ v, v = missPassed r (s.rd r).entered (s.rd r).schedule.length w := ⟨_, rfl⟩
    rw [← hv] at hrests ⊢
    have hn : (w.rd r).schedule.length ≤ (s.rd r).schedule.length := hw.schedule ▸ le_rfl
    intro rd c k missed
    have hk : (w.rd r).passedCount = k := by
      unfold Reader.passedCount
      rw [hw.schedule, hw.frameCount, takeWhile_passed hsorted]
    have hfilter : ∀ u : State, missed u = u.queue.dfcts.filter (·.2.isMissed) := fun u => by
      rw [← ReportQueue.missed_eq]
      exact List.filter_congr fun x _ => x.2.isMissed_eq
    have hnumber : (w.rd r).nextNumber = rd.nextNumber := congrArg Moving.nextNumber hw.rests.moving
    have htotal' : (w.rd r).committedTotal = rd.committedTotal := congrArg Moving.committedTotal hw.rests.moving
    have hunrecorded' : (w.rd r).unrecorded = rd.unrecorded := congrArg Moving.unrecorded hw.rests.moving
    have hbehind : ∀ {α : Type} (f : Moving → α), f ((expireExclusions r v).arbitrate.rd r).moving = f (v.rd r).moving :=
      fun f => congrArg f hrests.moving
    refine ⟨fun hheld hdfcts hplaces hlast => ?granted, fun hfull => ?refused⟩
    case granted =>
      have hload := s.load_le
      have hload' := hw.rests.load
      have hroom : w.Room k := ⟨hw.rests.placeHeld.trans hheld, by
        rw [hw.rests.dfcts, ReportQueue.length_dfcts]
        exact hdfcts, by omega⟩
      obtain ⟨hdfcts', hnext, hcommitted, hgap, hcounted⟩ := hv ▸ missPassed_granted (t := (s.rd r).entered) _ hn hk hroom
        (hnumber ▸ hlast) (htotal' ▸ htotal)
      refine ⟨?_, ?_, ?_, ?_, ?_⟩
      · rw [hfilter, hfilter, hrests.dfcts, hdfcts', hw.rests.dfcts, List.filter_append]
        refine congrArg (s.queue.dfcts.filter (·.2.isMissed) ++ ·) ?_
        rw [List.filter_eq_self.mpr (List.forall_mem_map.mpr fun i _ => rfl)]
        refine List.map_congr_left fun i _ => ?_
        unfold Reader.missedBody Reader.missedFields
        rw [hnumber, hw.rests.gap, hw.frameCount]
        rfl
      · exact (hbehind Moving.nextNumber).trans (hnext.trans (by rw [hnumber]))
      · exact (hbehind Moving.committedTotal).trans (hcommitted.trans (by rw [htotal']))
      · exact hrests.gap.trans (hgap.trans (by rw [hw.rests.gap]))
      · exact (hbehind Moving.unrecorded).trans (hcounted.trans hunrecorded')
    case refused =>
      have hfull' : 56 ≤ w.queue.dfctOccupied := by
        unfold ReportQueue.dfctOccupied
        rw [← ReportQueue.length_dfcts, hw.rests.dfcts, hw.rests.placeHeld, ReportQueue.length_dfcts]
        exact hfull
      obtain ⟨hdfcts', hnext, hcounted, hgap⟩ := hv ▸ missPassed_refused (t := (s.rd r).entered) _ hn hk hfull'
        (hunrecorded' ▸ hunrecorded)
      refine ⟨?_, ?_, ?_, ?_⟩
      · rw [hfilter, hfilter, hrests.dfcts, hdfcts', hw.rests.dfcts]
      · exact (hbehind Moving.nextNumber).trans (hnext.trans hnumber)
      · exact (hbehind Moving.unrecorded).trans (hcounted.trans (by rw [hunrecorded']))
      · exact hrests.gap.trans (hgap.trans (by rw [hw.rests.gap]))

end Sys2Proof.Machine
end

section
/-! What a splice absorbs: the least span that holds all that it reaches (R97). -/

namespace Sys2Proof.Machine

theorem absorbs_iff {lo hi : Nat} {y : Defect} :
    absorbs lo hi y = true ↔ y.state ≠ .committed ∧ y.kind = .click ∧ y.spanStart ≤ hi ∧ lo ≤ y.spanEnd := by
  simp [absorbs, Defect.uncommitted, Defect.shares, and_assoc]

theorem absorbs_mono {lo hi lo' hi' : Nat} {y : Defect} (hlo : lo' ≤ lo) (hhi : hi ≤ hi') (h : absorbs lo hi y = true) :
    absorbs lo' hi' y = true := by
  obtain ⟨hstate, hkind, hstart, hend⟩ := absorbs_iff.mp h
  exact absorbs_iff.mpr ⟨hstate, hkind, hstart.trans hhi, hlo.trans hend⟩

/-! ## One round -/

theorem Absorption.round_spec (x : Absorption) :
    x.round.first ≤ x.first ∧ x.last ≤ x.round.last ∧
      (∀ y ∈ x.remaining, absorbs x.first x.last y = true → x.round.first ≤ y.spanStart ∧ y.spanEnd ≤ x.round.last) ∧
      (x.round.first = x.first ∨ ∃ y ∈ x.remaining, absorbs x.first x.last y = true ∧ x.round.first = y.spanStart) ∧
      (x.round.last = x.last ∨ ∃ y ∈ x.remaining, absorbs x.first x.last y = true ∧ x.round.last = y.spanEnd) := by
  obtain ⟨hstart, hstarts, hstart'⟩ := foldl_choice (R := fun x y : Nat => x ≤ y) (fun _ => le_rfl) (fun h h' => le_trans h h')
    (op := min) (fun _ _ => Nat.min_le_left _ _) (fun _ _ => Nat.min_le_right _ _) min_choice Defect.spanStart
    (x.remaining.filter (absorbs x.first x.last)) x.first
  obtain ⟨hend, hends, hend'⟩ := foldl_choice (R := fun x y : Nat => y ≤ x) (fun _ => le_rfl) (fun h h' => le_trans h' h)
    (op := max) (fun _ _ => Nat.le_max_left _ _) (fun _ _ => Nat.le_max_right _ _) max_choice Defect.spanEnd
    (x.remaining.filter (absorbs x.first x.last)) x.last
  refine ⟨hstart, hend, fun y hy habsorbs => ?_, hstart'.imp_right ?_, hend'.imp_right ?_⟩
  · exact ⟨hstarts y (List.mem_filter.mpr ⟨hy, habsorbs⟩), hends y (List.mem_filter.mpr ⟨hy, habsorbs⟩)⟩
  · exact fun ⟨y, hy, heq⟩ => ⟨y, (List.mem_filter.mp hy).1, (List.mem_filter.mp hy).2, heq⟩
  · exact fun ⟨y, hy, heq⟩ => ⟨y, (List.mem_filter.mp hy).1, (List.mem_filter.mp hy).2, heq⟩

/-- A round that finds nothing to absorb leaves all as it stands. -/
theorem Absorption.round_self {x : Absorption} (h : ∀ y ∈ x.remaining, absorbs x.first x.last y = false) : x.round = x := by
  have htaken : x.remaining.filter (absorbs x.first x.last) = [] :=
    List.filter_eq_nil_iff.mpr fun y hy => by rw [h y hy]; exact Bool.false_ne_true
  have hleft : x.remaining.filter (fun d => !absorbs x.first x.last d) = x.remaining :=
    List.filter_eq_self.mpr fun y hy => by rw [h y hy]; rfl
  unfold Absorption.round
  dsimp only
  rw [htaken, hleft, List.append_nil]
  rfl

theorem Absorption.rounds_self {x : Absorption} (h : x.round = x) (n : Nat) : x.rounds n = x := by
  induction n with
  | zero => rfl
  | succ n ih =>
    change x.round.rounds n = x
    rw [h, ih]

theorem Absorption.round_shorter {x : Absorption} {y : Defect} (hy : y ∈ x.remaining) (h : absorbs x.first x.last y = true) :
    x.round.remaining.length < x.remaining.length :=
  List.length_filter_lt_length_iff_exists.mpr ⟨y, hy, by rw [h]; exact Bool.false_ne_true⟩

/-! ## The rounds -/

/-- Nothing that remains shares an index with the span. -/
def Absorption.Complete (x : Absorption) : Prop := ∀ y ∈ x.remaining, absorbs x.first x.last y = false

theorem Absorption.rounds_complete (n : Nat) (x : Absorption) (h : x.remaining.length ≤ n) : (x.rounds n).Complete := by
  induction n generalizing x with
  | zero =>
    have hnil : x.remaining = [] := List.length_eq_zero_iff.mp (Nat.le_zero.mp h)
    intro y hy
    rw [show (x.rounds 0).remaining = [] from hnil] at hy
    cases hy
  | succ n ih =>
    by_cases hall : ∀ y ∈ x.remaining, absorbs x.first x.last y = false
    · rw [Absorption.rounds_self (Absorption.round_self hall)]
      exact hall
    · push Not at hall
      obtain ⟨y, hy, habsorbs⟩ := hall
      have := Absorption.round_shorter hy (by simpa using habsorbs)
      exact ih x.round (by omega)

/-- The span grows, and holds all that was absorbed. -/
theorem Absorption.rounds_grow (n : Nat) (x : Absorption) : (x.rounds n).first ≤ x.first ∧ x.last ≤ (x.rounds n).last := by
  induction n generalizing x with
  | zero => exact ⟨le_rfl, le_rfl⟩
  | succ n ih =>
    obtain ⟨hfirst, hlast, _⟩ := x.round_spec
    obtain ⟨hfirst', hlast'⟩ := ih x.round
    exact ⟨hfirst'.trans hfirst, hlast.trans hlast'⟩

theorem Absorption.rounds_remaining_eq {n : Nat} {x : Absorption} (h : (x.rounds n).Complete) :
    (x.rounds n).remaining = x.remaining.filter fun y => !absorbs (x.rounds n).first (x.rounds n).last y := by
  induction n generalizing x with
  | zero => exact (List.filter_eq_self.mpr fun y hy => by rw [h y hy]; rfl).symm
  | succ n ih =>
    obtain ⟨hfirst, hlast, _⟩ := x.round_spec
    obtain ⟨hfirst', hlast'⟩ := x.round.rounds_grow n
    refine (ih (x := x.round) h).trans ((List.filter_filter).trans (List.filter_congr fun y _ => ?_))
    change (!absorbs (x.round.rounds n).first (x.round.rounds n).last y && !absorbs x.first x.last y) =
      !absorbs (x.round.rounds n).first (x.round.rounds n).last y
    cases habsorbs : absorbs x.first x.last y with
    | false => simp
    | true => rw [absorbs_mono (hfirst'.trans hfirst) (hlast.trans hlast') habsorbs]; rfl

theorem Absorption.mem_rounds_absorbed {n : Nat} {x : Absorption} (h : (x.rounds n).Complete) (y : Defect) :
    y ∈ (x.rounds n).absorbed ↔
      y ∈ x.absorbed ∨ y ∈ x.remaining ∧ absorbs (x.rounds n).first (x.rounds n).last y = true := by
  induction n generalizing x with
  | zero =>
    refine (or_iff_left fun ⟨hy, habsorbs⟩ => ?_).symm
    exact absurd ((h y hy).symm.trans habsorbs) Bool.false_ne_true
  | succ n ih =>
    obtain ⟨hfirst, hlast, _⟩ := x.round_spec
    obtain ⟨hfirst', hlast'⟩ := x.round.rounds_grow n
    have hmono : absorbs x.first x.last y = true → absorbs (x.round.rounds n).first (x.round.rounds n).last y = true :=
      absorbs_mono (hfirst'.trans hfirst) (hlast.trans hlast')
    refine (ih (x := x.round) h).trans ?_
    change (y ∈ x.absorbed ++ x.remaining.filter (absorbs x.first x.last) ∨
        y ∈ x.remaining.filter (fun d => !absorbs x.first x.last d) ∧
          absorbs (x.round.rounds n).first (x.round.rounds n).last y = true) ↔
      (y ∈ x.absorbed ∨ y ∈ x.remaining ∧ absorbs (x.round.rounds n).first (x.round.rounds n).last y = true)
    rw [List.mem_append, List.mem_filter, List.mem_filter]
    cases habsorbs : absorbs x.first x.last y with
    | false => simp
    | true => simp [hmono habsorbs]

/-- The span holds each absorbed entry. -/
theorem Absorption.rounds_hold (n : Nat) (x : Absorption)
    (h : ∀ y ∈ x.absorbed, x.first ≤ y.spanStart ∧ y.spanEnd ≤ x.last) :
    ∀ y ∈ (x.rounds n).absorbed, (x.rounds n).first ≤ y.spanStart ∧ y.spanEnd ≤ (x.rounds n).last := by
  induction n generalizing x with
  | zero => exact h
  | succ n ih =>
    obtain ⟨hfirst, hlast, htaken, _⟩ := x.round_spec
    refine ih x.round fun y hy => ?_
    rcases List.mem_append.mp hy with hy | hy
    · exact ⟨hfirst.trans (h y hy).1, (h y hy).2.trans hlast⟩
    · exact htaken y (List.mem_filter.mp hy).1 (List.mem_filter.mp hy).2

/-- The span keeps within every span that holds what it reaches. -/
theorem Absorption.rounds_within {lo hi : Nat} (n : Nat) (x : Absorption) (hlo : lo ≤ x.first) (hhi : x.last ≤ hi)
    (h : ∀ y ∈ x.remaining, absorbs lo hi y = true → lo ≤ y.spanStart ∧ y.spanEnd ≤ hi) :
    lo ≤ (x.rounds n).first ∧ (x.rounds n).last ≤ hi := by
  induction n generalizing x with
  | zero => exact ⟨hlo, hhi⟩
  | succ n ih =>
    obtain ⟨_, _, _, hfirst, hlast⟩ := x.round_spec
    refine ih x.round ?_ ?_ fun y hy => h y (List.mem_filter.mp hy).1
    · rcases hfirst with hfirst | ⟨y, hy, habsorbs, hfirst⟩
      · rw [hfirst]
        exact hlo
      · rw [hfirst]
        exact (h y hy (absorbs_mono hlo hhi habsorbs)).1
    · rcases hlast with hlast | ⟨y, hy, habsorbs, hlast⟩
      · rw [hlast]
        exact hhi
      · rw [hlast]
        exact (h y hy (absorbs_mono hlo hhi habsorbs)).2

/-- Absorption gathers the least span that holds the provisional one and all that shares an index with it. -/
theorem Reader.absorption_eq {rd : Reader} {t a b : Nat} (hlo : a ≤ t - rd.active.splicePre) (hhi : t + rd.active.splicePost - 1 ≤ b)
    (hholds : ∀ y ∈ rd.table, absorbs a b y = true → a ≤ y.spanStart ∧ y.spanEnd ≤ b)
    (hleast : ∀ a' b' : Nat, a' ≤ t - rd.active.splicePre → t + rd.active.splicePost - 1 ≤ b' →
      (∀ y ∈ rd.table, absorbs a' b' y = true → a' ≤ y.spanStart ∧ y.spanEnd ≤ b') → a' ≤ a ∧ b ≤ b') :
    (rd.absorption t).first = a ∧ (rd.absorption t).last = b ∧
      (rd.absorption t).remaining = rd.table.filter (fun y => !absorbs a b y) ∧
      ∀ y, y ∈ (rd.absorption t).absorbed ↔ y ∈ rd.table ∧ absorbs a b y = true := by
  obtain ⟨x, hx⟩ : ∃ x : Absorption, x = { first := t - rd.active.splicePre, last := t + rd.active.splicePost - 1, absorbed := []
                                           remaining := rd.table } := ⟨_, rfl⟩
  have heq : rd.absorption t = x.rounds rd.table.length := by rw [hx]; rfl
  have hcomplete : (rd.absorption t).Complete := by
    rw [heq]
    exact Absorption.rounds_complete _ _ (by rw [hx])
  have hmem : ∀ y, y ∈ (rd.absorption t).absorbed ↔
      y ∈ rd.table ∧ absorbs (rd.absorption t).first (rd.absorption t).last y = true := by
    intro y
    rw [heq] at hcomplete ⊢
    refine (Absorption.mem_rounds_absorbed hcomplete y).trans ?_
    rw [hx]
    simp
  have hwithin : a ≤ (rd.absorption t).first ∧ (rd.absorption t).last ≤ b := by
    rw [heq]
    refine Absorption.rounds_within _ x ?_ ?_ ?_
    · rw [hx]
      exact hlo
    · rw [hx]
      exact hhi
    · rw [hx]
      exact hholds
  have hgrow : (rd.absorption t).first ≤ t - rd.active.splicePre ∧ t + rd.active.splicePost - 1 ≤ (rd.absorption t).last := by
    have := x.rounds_grow rd.table.length
    rw [heq]
    rwa [hx] at this ⊢
  obtain ⟨hfirst, hlast⟩ := hleast _ _ hgrow.1 hgrow.2 fun y hy habsorbs => by
    have hin := (hmem y).mpr ⟨hy, habsorbs⟩
    rw [heq] at hin ⊢
    refine Absorption.rounds_hold _ x ?_ y hin
    rw [hx]
    exact fun _ h => nomatch h
  have hfirst' : (rd.absorption t).first = a := le_antisymm hfirst hwithin.1
  have hlast' : (rd.absorption t).last = b := le_antisymm hwithin.2 hlast
  refine ⟨hfirst', hlast', ?_, ?_⟩
  · rw [← hfirst', ← hlast']
    rw [heq] at hcomplete ⊢
    refine (Absorption.rounds_remaining_eq hcomplete).trans ?_
    rw [hx]
  · rw [← hfirst', ← hlast']
    exact hmem

end Sys2Proof.Machine
end

section
/-! The splice that is due at a pulse (R97 to R99, R57): what it absorbs, where it is clipped, and what opens. -/

open Relation (ReflTransGen)

namespace Sys2Proof.Machine

/-! ## What commits leave of a table and of the detectors -/

theorem Moving.detector_eq {a b : Reader} (h : a.moving = b.moving) (l : Lane) : (a.lane l).detector = (b.lane l).detector := by
  cases l
  · exact congrArg Moving.detector0 h
  · exact congrArg Moving.detector1 h

theorem State.detector_commitWatched (r : ReaderId) (k : Nat) (complete : Bool) (s : State) (l : Lane) :
    (commitWatched r k complete s).detector r l = s.detector r l := by
  have hsettles := moving_of_calm ((State.evaluateChange_settles s (commitAt r k complete s)).1.calm r)
  refine (Moving.detector_eq hsettles l).trans ?_
  cases hk : (s.rd r).table[k]? with
  | none =>
    unfold commitAt
    rw [hk]
    rfl
  | some d =>
    rw [commitAt_eq hk]
    split
    · rw [State.rd_onQueue, State.rd_onReader_self]
      cases l <;> rfl
    · rw [State.rd_onReader_self]
      cases l <;> rfl

theorem State.detector_commitAll (r : ReaderId) (ks : List Nat) (s : State) (l : Lane) :
    (commitAll r ks s).detector r l = s.detector r l := by
  induction ks generalizing s with
  | nil => rfl
  | cons k ks ih => exact (ih _).trans (State.detector_commitWatched r k _ s l)

theorem State.detector_onReader {s : State} {r : ReaderId} {f : Reader → Reader} {l : Lane}
    (h : ((f (s.rd r)).lane l).detector = ((s.rd r).lane l).detector) : (s.onReader r f).detector r l = s.detector r l := by
  unfold State.detector
  rw [State.rd_onReader_self, h]

theorem Reader.lane_mapTable (rd : Reader) (test : Defect → Bool) (f : Defect → Defect) (l : Lane) :
    (rd.mapTable test f).lane l = rd.lane l := by
  cases l <;> rfl

theorem State.detector_cutEntries (r : ReaderId) (reached along : Defect → Bool) (s : State) (l : Lane) :
    (cutEntries r reached along s).detector r l = s.detector r l :=
  (State.detector_commitAll r _ _ l).trans (State.detector_onReader (congrArg LaneState.detector (Reader.lane_mapTable _ _ _ l)))

theorem State.detector_idleLane (s : State) (r : ReaderId) (l k : Lane) :
    (s.onReader r fun x => x.idleLane l).detector r k = if k = l then (s.detector r k).idle else s.detector r k := by
  unfold State.detector
  rw [State.rd_onReader_self]
  cases l <;> cases k <;> rfl

theorem State.detector_closeRun (r : ReaderId) (l : Lane) (finalEnd : Nat) (s : State) (k : Lane) :
    (closeRun r l finalEnd s).detector r k = if k = l then (s.detector r k).idle else s.detector r k := by
  have hidle := State.detector_idleLane s r l k
  have hset : ∀ (j : Nat) (c : Defect), ((s.onReader r fun x => x.idleLane l).onReader r fun x => x.setEntry j c).detector r k =
      (s.onReader r fun x => x.idleLane l).detector r k := fun j c => State.detector_onReader (by cases k <;> rfl)
  unfold closeRun
  dsimp only
  split
  · exact hidle
  · split
    · exact (State.detector_onReader (by cases k <;> rfl)).trans hidle
    · split
      · exact ((State.detector_commitWatched r _ _ _ k).trans (hset _ _)).trans hidle
      · exact (hset _ _).trans hidle

/-- A property of entries that closing, cutting and committing keep. -/
structure EntryKept (P : Defect → Prop) : Prop where
  committed : ∀ d : Defect, d.state = .committed → P d
  cut : ∀ d : Defect, P d → P { d with cut := true }

theorem EntryKept.set {P : Defect → Prop} {t : List Defect} (h : ∀ d ∈ t, P d) {c : Defect} (hc : P c) (k : Nat) :
    ∀ d ∈ t.set k c, P d := fun d hd =>
  (List.mem_or_eq_of_mem_set hd).elim (h d) fun heq => heq ▸ hc

theorem EntryKept.commitWatched {P : Defect → Prop} (kept : EntryKept P) {r : ReaderId} {s : State} (h : ∀ d ∈ (s.rd r).table, P d)
    (k : Nat) (complete : Bool) : ∀ d ∈ ((commitWatched r k complete s).rd r).table, P d := by
  cases hk : (s.rd r).table[k]? with
  | none =>
    have hself : ((Sys2Proof.Machine.commitWatched r k complete s).rd r).table = (s.rd r).table := by
      refine (table_of_settles (State.evaluateChange_settles s _) r).trans ?_
      unfold commitAt
      rw [hk]
    rw [hself]
    exact h
  | some d =>
    obtain ⟨d', hd', htable⟩ := commitWatched_table hk complete
    rw [htable]
    exact EntryKept.set h (kept.committed d' hd'.state) k

theorem EntryKept.commitAll {P : Defect → Prop} (kept : EntryKept P) {r : ReaderId} (ks : List Nat) {s : State}
    (h : ∀ d ∈ (s.rd r).table, P d) : ∀ d ∈ ((commitAll r ks s).rd r).table, P d := by
  induction ks generalizing s with
  | nil => exact h
  | cons k ks ih => exact ih (kept.commitWatched h k _)

theorem EntryKept.cutEntries {P : Defect → Prop} (kept : EntryKept P) {r : ReaderId} (reached along : Defect → Bool) {s : State}
    (h : ∀ d ∈ (s.rd r).table, P d) : ∀ d ∈ ((cutEntries r reached along s).rd r).table, P d := by
  refine kept.commitAll _ fun d hd => ?_
  rw [State.rd_onReader_self] at hd
  obtain ⟨d₀, hd₀, rfl⟩ := List.mem_map.mp hd
  split
  · exact kept.cut d₀ (h d₀ hd₀)
  · exact h d₀ hd₀

/-- The close of a run keeps what its merged entry and its closed entry keep. -/
theorem EntryKept.closeRun {P : Defect → Prop} (kept : EntryKept P) {r : ReaderId} {l : Lane} {finalEnd : Nat} {s : State}
    (h : ∀ d ∈ (s.rd r).table, P d)
    (hclosed : ∀ d, (s.rd r).table.find? (isRunOf l) = some d → P { d with spanEnd := finalEnd, state := .closed })
    (hmerged : ∀ d, (s.rd r).table.find? (isRunOf l) = some d → ∀ mates : List Defect,
      (∀ y ∈ mates, y ∈ (s.rd r).table ∧ mergesWith l { d with spanEnd := finalEnd, state := .closed } y = true) →
      ∀ cut : Bool, P { mergedEntry { d with spanEnd := finalEnd, state := .closed } mates with cut := cut }) :
    ∀ d ∈ ((closeRun r l finalEnd s).rd r).table, P d := by
  have hidle : ((s.onReader r fun x => x.idleLane l).rd r).table = (s.rd r).table := by
    rw [State.rd_onReader_self, Reader.table_idleLane]
  unfold Sys2Proof.Machine.closeRun
  dsimp only
  split
  · rw [hidle]
    exact h
  · rename_i d hd
    have hfind : (s.rd r).table.find? (isRunOf l) = some d := List.find?_eq_getElem?_findIdx.trans hd
    split
    · rw [State.rd_onReader_self]
      intro y hy
      have hy' := (fileDefect_perm _ _).mem_iff.mp hy
      rcases List.mem_cons.mp hy' with rfl | hy'
      · refine hmerged d hfind _ (fun z hz => ?_) _
        obtain ⟨hz, hmerges⟩ := List.mem_filter.mp hz
        exact ⟨List.mem_of_mem_eraseIdx hz, hmerges⟩
      · exact h y (List.mem_of_mem_eraseIdx (List.mem_filter.mp hy').1)
    · have hset : ∀ y ∈ ((((s.onReader r fun x => x.idleLane l).onReader r fun x => x.setEntry ((s.rd r).table.findIdx (isRunOf l))
          { d with spanEnd := finalEnd, state := .closed }).rd r).table), P y := by
        rw [State.rd_onReader_self]
        unfold Reader.setEntry
        dsimp only
        rw [hidle]
        exact EntryKept.set h (hclosed d hfind) _
      split
      · exact kept.commitWatched hset _ _
      · exact hset

/-! ## The entries beside a splice's span -/

/-- An uncommitted CLICK entry that shares no index with a span, as absorption leaves it. -/
def Defect.Clear (lo hi : Nat) (y : Defect) : Prop :=
  y.state ≠ .committed → y.kind = .click → y.spanStart ≤ y.spanEnd ∧ (y.spanEnd < lo ∨ hi < y.spanStart)

theorem clear_kept (lo hi : Nat) : EntryKept (Defect.Clear lo hi) :=
  ⟨fun _ h h' => absurd h h', fun _ h => h⟩

theorem Defect.Clear.not_absorbs {lo hi : Nat} {y : Defect} (h : y.Clear lo hi) : absorbs lo hi y = false := by
  rw [← Bool.not_eq_true, absorbs_iff]
  rintro ⟨hstate, hkind, hstart, hend⟩
  obtain ⟨_, hbeside⟩ := h hstate hkind
  omega

theorem Defect.clear_of_not_absorbs {lo hi : Nat} {y : Defect} (hspan : y.spanStart ≤ y.spanEnd) (h : absorbs lo hi y = false) :
    y.Clear lo hi := by
  intro hstate hkind
  refine ⟨hspan, ?_⟩
  rw [← Bool.not_eq_true, absorbs_iff] at h
  by_contra hnot
  exact h ⟨hstate, hkind, by omega, by omega⟩

/-- A run that ends before a place of the span stands before the span, and so do the entries that it merges with. -/
theorem closeBefore_clear {lo hi first : Nat} (hfirst : first ≤ hi) (r : ReaderId) (l : Lane) {s : State}
    (h : ∀ d ∈ (s.rd r).table, d.Clear lo hi) : ∀ d ∈ ((closeBefore r first s l).rd r).table, d.Clear lo hi := by
  unfold closeBefore
  split
  · rename_i d hd
    split
    · rename_i hends
      obtain ⟨hkind, hstate, hlanes⟩ := isRunOf_iff.mp (List.find?_some hd)
      have hrun := h d (List.mem_of_find?_eq_some hd) (by rw [hstate]; decide) hkind
      have hclosed : ∀ d', (s.rd r).table.find? (isRunOf l) = some d' →
          { d' with spanEnd := d.spanEnd, state := .closed } = { d with state := .closed } := fun d' hd' => by
        obtain rfl : d = d' := Option.some.inj (hd.symm.trans hd')
        rfl
      refine (clear_kept lo hi).closeRun h (fun d' hd' => ?_) fun d' hd' mates hmates cut => ?_
      · rw [hclosed d' hd']
        exact fun _ _ => hrun
      · rw [hclosed d' hd'] at hmates ⊢
        obtain ⟨_, _, _, hall, ⟨ys, hys, hystart⟩, ⟨ye, hye, hyend⟩, _⟩ := mergedEntry_spec { d with state := .closed } mates
        have hmate : ∀ y ∈ mates, y.spanEnd < lo := fun y hy => by
          obtain ⟨hmem, hmerges⟩ := hmates y hy
          simp only [mergesWith, Bool.and_eq_true, beq_iff_eq, Defect.shares_iff] at hmerges
          obtain ⟨⟨⟨hclosed', hclick⟩, _⟩, hstart, _⟩ := hmerges
          have := h y hmem (by rw [hclosed']; decide) hclick
          omega
        have hall' := hall { d with state := .closed } List.mem_cons_self
        intro _ _
        dsimp only at hall' hystart hyend ⊢
        refine ⟨by omega, .inl ?_⟩
        rcases List.mem_cons.mp hye with rfl | hye
        · dsimp only at hyend
          omega
        · have := hmate ye hye
          omega
    · exact h
  · exact h

theorem foldl_closeBefore_clear {lo hi first : Nat} (hfirst : first ≤ hi) (r : ReaderId) (ls : List Lane) {s : State}
    (h : ∀ d ∈ (s.rd r).table, d.Clear lo hi) : ∀ d ∈ ((ls.foldl (closeBefore r first) s).rd r).table, d.Clear lo hi := by
  induction ls generalizing s with
  | nil => exact h
  | cons l ls ih => exact ih (closeBefore_clear hfirst r l h)

/-- A detector that has ended its run stands so behind the closes before a splice. -/
theorem foldl_closeBefore_detector (r : ReaderId) (first : Nat) (l : Lane) (ls : List Lane) {s : State} {d : Detector}
    (h : s.detector r l = d.idle) : (ls.foldl (closeBefore r first) s).detector r l = d.idle := by
  induction ls generalizing s with
  | nil => exact h
  | cons k ls ih =>
    refine ih ?_
    unfold closeBefore
    split
    · split
      · rw [State.detector_closeRun, h]
        split <;> rfl
      · exact h
    · exact h

theorem fileSplice_of_room {r : ReaderId} {first last : Nat} {s : State} (h : (s.rd r).table.length < 32) :
    fileSplice r first last s = (cutEntries r (fun _ => true) (fun _ => false)
      ((lanesByTable (s.rd r).table).foldl (closeBefore r first) s)).onReader r fun x =>
        { x with table := fileDefect x.table (spliceEntry first last) } :=
  if_pos h

/-- The table and the detectors behind the opening of a splice. -/
theorem fileSplice_opens {r : ReaderId} {lo first last : Nat} {s : State} (hroom : (s.rd r).table.length < 32) (hfirst : first ≤ last)
    (h : ∀ d ∈ (s.rd r).table, d.Clear lo last) :
    spliceEntry first last ∈ ((fileSplice r first last s).rd r).table ∧
      (∀ d ∈ ((fileSplice r first last s).rd r).table, d.Clear lo last) ∧
      ∀ (l : Lane) (d : Detector), s.detector r l = d.idle → (fileSplice r first last s).detector r l = d.idle := by
  rw [fileSplice_of_room hroom]
  have hclear := (clear_kept lo last).cutEntries (r := r) (fun _ => true) (fun _ => false)
    (foldl_closeBefore_clear hfirst r (lanesByTable (s.rd r).table) h)
  refine ⟨?_, ?_, fun l d hd => ?_⟩
  · rw [State.rd_onReader_self]
    exact (fileDefect_perm _ _).mem_iff.mpr List.mem_cons_self
  · rw [State.rd_onReader_self]
    intro d hd
    rcases List.mem_cons.mp ((fileDefect_perm _ _).mem_iff.mp hd) with rfl | hd
    · exact fun _ hkind => nomatch hkind
    · exact hclear d hd
  · rw [State.detector_onReader (by cases l <;> rfl), State.detector_cutEntries]
    exact foldl_closeBefore_detector r first l _ hd

/-! ## What is counted as unrecorded -/

theorem Acts.unrecorded_le {a b : Reader} (h : Acts a b) (ha : a.unrecorded ≤ 65535) :
    a.unrecorded ≤ b.unrecorded ∧ b.unrecorded ≤ 65535 := by
  have hcount : ∀ x : Reader, x.unrecorded ≤ 65535 → x.unrecorded ≤ x.countUnrecorded.unrecorded ∧ x.countUnrecorded.unrecorded ≤ 65535 :=
    fun x hx => ⟨Nat.le_min.mpr ⟨Nat.le_succ _, hx⟩, Nat.min_le_right _ _⟩
  induction h with
  | refl => exact ⟨le_rfl, ha⟩
  | @tail x y _ hact ih =>
    obtain ⟨hle, hbound⟩ := ih
    rcases hact with hact | hmoving
    · cases hact with
      | record | missed | table => exact ⟨hle, hbound⟩
      | refuse | count => exact ⟨hle.trans (hcount x hbound).1, (hcount x hbound).2⟩
      | detector l f => cases l <;> exact ⟨hle, hbound⟩
    · rw [show y.unrecorded = x.unrecorded from congrArg Moving.unrecorded hmoving]
      exact ⟨hle, hbound⟩

/-- Freeing the absorbed entries leaves what neither the table nor a detector holds. -/
theorem Reader.freeAbsorbed_field {α : Type} (f : Reader → α) (hlane : ∀ (x : Reader) (l : Lane), f (x.idleLane l) = f x)
    (htable : ∀ (x : Reader) (t : List Defect), f { x with table := t } = f x) (rd : Reader) (a : Absorption) :
    f (rd.freeAbsorbed a) = f rd := by
  have hidle : ∀ (x : Reader) (b : Bool) (l : Lane), f (if b then x.idleLane l else x) = f x := fun x b l => by
    cases b
    · rfl
    · exact hlane x l
  unfold Reader.freeAbsorbed
  dsimp only
  rw [hidle, hidle, htable]

theorem Reader.unrecorded_freed (rd : Reader) (a : Absorption) (counts : Bool) (h : rd.unrecorded ≤ 65535) :
    (rd.freed a counts).unrecorded = min (rd.unrecorded + counts.toNat) 65535 := by
  have hfree := Reader.freeAbsorbed_field Reader.unrecorded (fun _ _ => Reader.onLane_unrecorded _ _ _) (fun _ _ => rfl) rd a
  cases counts with
  | false => exact hfree.trans (Nat.min_eq_left h).symm
  | true => exact congrArg (fun n => min (n + 1) 65535) hfree

theorem Reader.gap_freed (rd : Reader) (a : Absorption) (counts : Bool) : (rd.freed a counts).gap = (rd.gap || counts) := by
  have hfree := Reader.freeAbsorbed_field Reader.gap (fun _ _ => Reader.onLane_gap _ _ _) (fun _ _ => rfl) rd a
  cases counts with
  | false => exact hfree.trans (Bool.or_false _).symm
  | true => exact (Bool.or_true _).symm

theorem Reader.nextNumber_freed (rd : Reader) (a : Absorption) (counts : Bool) : (rd.freed a counts).nextNumber = rd.nextNumber := by
  have hfree := Reader.freeAbsorbed_field Reader.nextNumber (fun _ _ => Reader.onLane_nextNumber _ _ _) (fun _ _ => rfl) rd a
  cases counts <;> exact hfree

theorem Reader.monitor_freed (rd : Reader) (a : Absorption) (counts : Bool) : (rd.freed a counts).monitor = rd.monitor := by
  have hfree := Reader.freeAbsorbed_field Reader.monitor (fun _ _ => Reader.onLane_monitor _ _ _) (fun _ _ => rfl) rd a
  cases counts <;> exact hfree

theorem Reader.detector_freed (rd : Reader) (a : Absorption) (counts : Bool) {l : Lane} (h : a.absorbed.any (isRunOf l) = true) :
    ((rd.freed a counts).lane l).detector = (rd.lane l).detector.idle := by
  have hfree : ((rd.freeAbsorbed a).lane l).detector = (rd.lane l).detector.idle := by
    unfold Reader.freeAbsorbed
    dsimp only
    cases l
    · rw [h]
      cases a.absorbed.any (isRunOf .lane1) <;> rfl
    · rw [h]
      cases a.absorbed.any (isRunOf .lane0) <;> rfl
  cases counts <;> exact hfree

/-! ## The settlement -/

/-- The core of a due splice, the watches' last evaluation left out. -/
theorem openSplice_core {r : ReaderId} {t first : Nat} {a : Absorption} {s : State} (ha : (s.rd r).absorption t = a)
    (hfirst : clippedStart a.remaining a.first a.last = first) :
    ∃ u, Rests r 0 u (openSplice r t s) ∧
      (first ≤ a.last → u = fileSplice r first a.last
        (s.onReader r fun x => x.freed a (a.absorbed.any fun d => d.spanStart < first))) ∧
      (a.last < first → u = reportMissed r t (s.onReader r fun x => x.freed a (!a.absorbed.isEmpty))) := by
  rcases Nat.lt_or_ge a.last first with h | h
  · exact ⟨_, openSplice_of_empty ha hfirst h ▸ (Rests.refl r _).watches, fun h' => absurd h' (Nat.not_le.mpr h), fun _ => rfl⟩
  · exact ⟨_, openSplice_of_span ha hfirst h ▸ (Rests.refl r _).watches, fun _ => rfl, fun h' => absurd h (Nat.not_le.mpr h')⟩

theorem clips_eq (lo hi : Nat) (y : Defect) :
    clips lo hi y = ((y.state == .committed || y.kind == .splice) && decide (y.spanStart ≤ hi) && decide (lo ≤ y.spanEnd)) :=
  (Bool.and_assoc _ _ _).symm

theorem absorbs_eq (lo hi : Nat) (y : Defect) :
    absorbs lo hi y = (y.state != .committed && y.kind == .click && decide (y.spanStart ≤ hi) && decide (lo ≤ y.spanEnd)) :=
  (Bool.and_assoc _ _ _).symm

/-- The table and the detectors where no place is left for a splice, or nothing of it. -/
theorem reportMissed_rests (r : ReaderId) (t : Nat) (s : State) :
    ((reportMissed r t s).rd r).table = (s.rd r).table ∧ ∀ l, (reportMissed r t s).detector r l = s.detector r l := by
  rw [reportMissed_eq]
  split
  · refine ⟨?_, fun l => ?_⟩
    · rw [State.rd_onQueue, State.rd_onReader_self]
      rfl
    · unfold State.detector
      rw [State.rd_onQueue, State.rd_onReader_self]
      cases l <;> rfl
  · refine ⟨?_, fun l => State.detector_onReader (by cases l <;> rfl)⟩
    rw [State.rd_onReader_self]
    rfl

/-! ## The splice that is due at a pulse -/

/-- The state v in which the splice due at a pulse from s is taken, the schedule holding the rest, and what it absorbs. -/
structure TakesSplice (r : ReaderId) (s v : State) (A : Absorption) : Prop where
  pulse : ∃ w rest, PulseBehind r s w ∧ v = w.onReader r fun y => { y with schedule := rest }
  remaining : A.remaining = (s.rd r).table.filter fun y => !absorbs A.first A.last y
  absorbed : ∀ y, y ∈ A.absorbed ↔ y ∈ (s.rd r).table ∧ absorbs A.first A.last y = true
  spans : ∀ y ∈ (s.rd r).table, y.spanStart ≤ y.spanEnd

/-- The lanes whose run the splice absorbs are in IDLE. -/
def IdlesAbsorbed (r : ReaderId) (A : Absorption) (s t : State) : Prop :=
  ∀ l : Lane, (∃ y ∈ (s.rd r).table, isRunOf l y = true ∧ absorbs A.first A.last y = true) →
    t.detector r l = (s.detector r l).idle

namespace TakesSplice

section
variable {r : ReaderId} {s v : State} {A : Absorption} (h : TakesSplice r s v A)
include h

theorem moving : (v.rd r).moving = (s.rd r).moving := by
  obtain ⟨w, rest, hw, rfl⟩ := h.pulse
  rw [State.rd_onReader_self]
  exact hw.rests.moving

theorem unrecorded : (v.rd r).unrecorded = (s.rd r).unrecorded := congrArg Moving.unrecorded h.moving

theorem clear : ∀ y ∈ A.remaining, y.Clear A.first A.last := fun y hy => by
  rw [h.remaining] at hy
  obtain ⟨hy, hnot⟩ := List.mem_filter.mp hy
  exact Defect.clear_of_not_absorbs (h.spans y hy) (by simpa using hnot)

omit h in
theorem table_freed (counts : Bool) : ((v.onReader r fun x => x.freed A counts).rd r).table = A.remaining := by
  rw [State.rd_onReader_self, Reader.table_freed]

theorem detector_freed (counts : Bool) : IdlesAbsorbed r A s (v.onReader r fun x => x.freed A counts) := by
  rintro l ⟨y, hy, hrun, habs⟩
  unfold State.detector
  rw [State.rd_onReader_self, Reader.detector_freed _ _ _ (List.any_eq_true.mpr ⟨y, (h.absorbed y).mpr ⟨hy, habs⟩, hrun⟩)]
  exact congrArg Detector.idle (Moving.detector_eq h.moving l)

theorem unrecorded_freed (counts : Bool) (hbound : (s.rd r).unrecorded ≤ 65535) :
    ((v.onReader r fun x => x.freed A counts).rd r).unrecorded = min ((s.rd r).unrecorded + counts.toNat) 65535 := by
  rw [State.rd_onReader_self, ← h.unrecorded]
  exact Reader.unrecorded_freed _ _ _ (h.unrecorded ▸ hbound)

/-- A DFCT record is granted its place behind the pulse's own reports. -/
theorem grants (hheld : s.queue.placeHeld = false) (hdfcts : s.queue.dfctCount < 56) (hplaces : s.queue.records.length + 8 ≤ 64) :
    v.queue.grants = true := by
  obtain ⟨w, rest, hw, rfl⟩ := h.pulse
  have hload := s.load_le
  have hload' := hw.rests.load
  have hrecords : w.queue.records.length ≤ w.load := Nat.le_add_right _ _
  rw [State.onReader_queue, ReportQueue.grants_iff, ReportQueue.dfctOccupied, ReportQueue.occupied, ← ReportQueue.length_dfcts,
    hw.rests.dfcts, hw.rests.placeHeld, hheld, ReportQueue.length_dfcts]
  exact ⟨hdfcts, by simp only [Bool.toNat_false]; omega⟩

/-- The fields of the record that reports the splice MISSED. -/
theorem missedFields (counts : Bool) (n : Nat) : ((v.rd r).freed A counts).missedFields n =
    { lanes := .both, kind := .splice, method := .missed, number := (s.rd r).nextNumber, spanStart := index48 n, length := 0, peak := 0
      frameCount := min ((s.rd r).monitor.frameCount + 1) (2 ^ 32 - 1), gapBefore := (s.rd r).gap || counts, captured := false } := by
  have hnumber : (v.rd r).nextNumber = (s.rd r).nextNumber := congrArg Moving.nextNumber h.moving
  obtain ⟨w, rest, hw, rfl⟩ := h.pulse
  unfold Reader.missedFields
  rw [Reader.nextNumber_freed, Reader.monitor_freed, Reader.gap_freed, hnumber, State.rd_onReader_self]
  dsimp only
  rw [hw.frameCount, hw.rests.gap]

end

section
variable {r : ReaderId} {s v u t : State} {A : Absorption} (h : TakesSplice r s v A) (hrests : Rests r 0 u t)
include h hrests

theorem idles_of {counts : Bool}
    (hu : ∀ l, (v.onReader r fun x => x.freed A counts).detector r l = (s.detector r l).idle → u.detector r l = (s.detector r l).idle) :
    IdlesAbsorbed r A s t := fun l hl =>
  (Moving.detector_eq hrests.moving l).trans (hu l (h.detector_freed counts l hl))

/-- The splice of which nothing is left is not opened, and reported MISSED where its record is granted (R99). -/
theorem missed {n : Nat} {absorbed : Bool} (hu : u = reportMissed r n (v.onReader r fun x => x.freed A absorbed)) :
    (t.rd r).table = A.remaining ∧ IdlesAbsorbed r A s t ∧
      ((s.rd r).unrecorded ≤ 65535 → s.queue.placeHeld = false → s.queue.dfctCount < 56 → s.queue.records.length + 8 ≤ 64 →
        (t.rd r).unrecorded = min ((s.rd r).unrecorded + absorbed.toNat) 65535 ∧ (t.rd r).gap = false ∧
        (r, ReportBody.dfct
          { lanes := .both, kind := .splice, method := .missed, number := (s.rd r).nextNumber, spanStart := index48 n, length := 0, peak := 0
            frameCount := min ((s.rd r).monitor.frameCount + 1) (2 ^ 32 - 1), gapBefore := (s.rd r).gap || absorbed
            captured := false }) ∈ t.queue.bodies) := by
  obtain ⟨htable, hdetector⟩ := reportMissed_rests r n (v.onReader r fun x => x.freed A absorbed)
  rw [← hu] at htable hdetector
  refine ⟨(congrArg Moving.table hrests.moving).trans (htable.trans (table_freed _)),
    h.idles_of hrests fun l hl => (hdetector l).trans hl, fun hbound hheld hdfcts hplaces => ?_⟩
  rw [reportMissed_eq, if_pos (by rw [State.onReader_queue]; exact h.grants hheld hdfcts hplaces)] at hu
  have hrecorded : u.rd r = ((v.onReader r fun x => x.freed A absorbed).rd r).recordMissed := by
    rw [hu, State.rd_onQueue, State.rd_onReader_self]
  refine ⟨?_, ?_, ?_⟩
  · refine (congrArg Moving.unrecorded hrests.moving).trans ((congrArg Reader.unrecorded hrecorded).trans ?_)
    exact h.unrecorded_freed absorbed hbound
  · rw [hrests.gap, hrecorded]
    rfl
  · have hmem : (r, ReportBody.dfct (((v.rd r).freed A absorbed).missedFields n)) ∈ t.queue.dfcts := by
      rw [hrests.dfcts, hu, State.onQueue_queue, ReportQueue.dfcts_fill, State.rd_onReader_self]
      exact List.mem_append_right _ List.mem_cons_self
    rw [h.missedFields] at hmem
    exact (List.mem_filter.mp hmem).1

/-- The splice that finds a full table is not opened, and counts as unrecorded (R99). -/
theorem full {counts : Bool} {first : Nat} (hfull : ¬ A.remaining.length < 32)
    (hu : u = fileSplice r first A.last (v.onReader r fun x => x.freed A counts)) :
    (t.rd r).table = A.remaining ∧ IdlesAbsorbed r A s t ∧ (t.rd r).gap = true ∧
      ((s.rd r).unrecorded ≤ 65535 → (t.rd r).unrecorded = min ((s.rd r).unrecorded + counts.toNat + 1) 65535) := by
  have hcounts : u = (v.onReader r fun x => x.freed A counts).onReader r Reader.countUnrecorded :=
    hu.trans (if_neg (by rw [table_freed]; exact hfull))
  have hrecorded : u.rd r = ((v.onReader r fun x => x.freed A counts).rd r).countUnrecorded := by
    rw [hcounts, State.rd_onReader_self]
  refine ⟨(congrArg Moving.table hrests.moving).trans ((congrArg Reader.table hrecorded).trans (table_freed _)),
    h.idles_of (counts := counts) hrests fun l hl => ?_, hrests.gap.trans (congrArg Reader.gap hrecorded), fun hbound => ?_⟩
  · exact (congrArg (fun x : State => x.detector r l) hcounts).trans ((State.detector_onReader (by cases l <;> rfl)).trans hl)
  · refine (congrArg Moving.unrecorded hrests.moving).trans ((congrArg Reader.unrecorded hrecorded).trans ?_)
    refine (congrArg (fun k => min (k + 1) 65535) (h.unrecorded_freed counts hbound)).trans ?_
    omega

/-- The splice that has a span and a place opens (R97). -/
theorem opens {counts : Bool} {first : Nat} (hroom : A.remaining.length < 32) (hfirst : first ≤ A.last)
    (hu : u = fileSplice r first A.last (v.onReader r fun x => x.freed A counts)) :
    spliceEntry first A.last ∈ (t.rd r).table ∧ (∀ y ∈ (t.rd r).table, y.Clear A.first A.last) ∧ IdlesAbsorbed r A s t ∧
      ((s.rd r).unrecorded ≤ 65535 → min ((s.rd r).unrecorded + counts.toNat) 65535 ≤ (t.rd r).unrecorded) := by
  obtain ⟨hmem, hclear, hidle⟩ := fileSplice_opens (r := r) (lo := A.first) (first := first) (last := A.last)
    (s := v.onReader r fun x => x.freed A counts) (by rw [table_freed]; exact hroom) hfirst (by rw [table_freed]; exact h.clear)
  rw [← hu] at hmem hclear hidle
  have htable : (t.rd r).table = (u.rd r).table := congrArg Moving.table hrests.moving
  refine ⟨htable ▸ hmem, htable ▸ hclear, h.idles_of hrests fun l => hidle l _, fun hbound => ?_⟩
  have hcounted := h.unrecorded_freed counts hbound
  have hacts := (fileSplice_works r first A.last (v.onReader r fun x => x.freed A counts)).acts
  rw [← hu] at hacts
  have hkept := (Acts.unrecorded_le hacts (hcounted ▸ Nat.min_le_right _ _)).1
  rw [hcounted] at hkept
  exact hkept.trans (congrArg Moving.unrecorded hrests.moving).ge

end

end TakesSplice

/-- A pulse at which a splice is due, its span a to b being the least that holds what it absorbs. -/
theorem exec_pulse_splice {r : ReaderId} {x : SpliceEntry} {rest : List SpliceEntry} {a b : Nat} {s : State}
    (hstate : (s.rd r).state = .running ∨ (s.rd r).state = .bypassed) (hclock : (s.rd r).clockLost = false)
    (hreleases : (s.rd r).params.releases = false) (hschedule : (s.rd r).schedule = x :: rest)
    (hdue : x.due = min ((s.rd r).monitor.frameCount + 1) (2 ^ 32 - 1)) (hspans : ∀ y ∈ (s.rd r).table, y.spanStart ≤ y.spanEnd)
    (hlo : a ≤ (s.rd r).entered - (s.rd r).active.splicePre) (hhi : (s.rd r).entered + (s.rd r).active.splicePost - 1 ≤ b)
    (hholds : ∀ y ∈ (s.rd r).table, absorbs a b y = true → a ≤ y.spanStart ∧ y.spanEnd ≤ b)
    (hleast : ∀ a' b' : Nat, a' ≤ (s.rd r).entered - (s.rd r).active.splicePre → (s.rd r).entered + (s.rd r).active.splicePost - 1 ≤ b' →
      (∀ y ∈ (s.rd r).table, absorbs a' b' y = true → a' ≤ y.spanStart ∧ y.spanEnd ≤ b') → a' ≤ a ∧ b ≤ b') :
    ∃ (v t : State) (A : Absorption), exec (.realPulse r) s = .next t ∧ (t.rd r).schedule = rest ∧ A.first = a ∧ A.last = b ∧
      (v.rd r).absorption (s.rd r).entered = A ∧ TakesSplice r s v A ∧ Rests r 0 (openSplice r (s.rd r).entered v) t := by
  obtain ⟨w, hw, hexec⟩ := exec_pulse_behind hstate hreleases
  obtain ⟨v, hv⟩ : ∃ v, v = w.onReader r fun y => { y with schedule := rest } := ⟨_, rfl⟩
  have hreader : v.rd r = { w.rd r with schedule := rest } := by rw [hv, State.rd_onReader_self]
  have hactive : (v.rd r).active = (s.rd r).active := by
    rw [hreader]
    exact congrArg (fun p : Params => p.setOf .active) hw.params
  have htable : (v.rd r).table = (s.rd r).table := by
    rw [hreader]
    exact hw.table
  have hdue' : scheduleAtPulse r w = openSplice r (s.rd r).entered v := (hw.due hschedule hdue hclock).trans (by rw [hv])
  rw [hdue'] at hexec
  obtain ⟨hfirst, hlast, hremaining, habsorbed⟩ := Reader.absorption_eq (rd := v.rd r) (t := (s.rd r).entered) (a := a) (b := b)
    (by rw [hactive]; exact hlo) (by rw [hactive]; exact hhi) (by rw [htable]; exact hholds) (by rw [htable, hactive]; exact hleast)
  rw [htable] at hremaining habsorbed
  refine ⟨v, _, _, hexec, ?_, hfirst, hlast, rfl, ⟨⟨w, rest, hw, hv⟩, ?_, ?_, hspans⟩, expire_rests r _⟩
  · rw [expire_schedule, show ((openSplice r (s.rd r).entered v).rd r).schedule = (v.rd r).schedule from
        (congrArg Reader.schedule (openSplice_works r _ v).still :), hreader]
  · rw [hfirst, hlast]
    exact hremaining
  · rw [hfirst, hlast]
    exact habsorbed

/-- Settles O43: absorption as the least span, then the splice's own three outcomes. -/
theorem spliceAbsorbsAndIsClipped : Obligations.SpliceAbsorbsAndIsClipped := by
  unfold Obligations.SpliceAbsorbsAndIsClipped
  intro r x rest a b s hstate hclock hreleases hschedule hdue hpost hspans rd n absorbs' holds hholds hleast
  have habsorbs : absorbs' = absorbs := funext fun lo => funext fun hi => funext fun y => (absorbs_eq lo hi y).symm
  clear_value absorbs'
  subst habsorbs
  obtain ⟨hlo, hhi, hall⟩ := hholds
  obtain ⟨v, t, A, ht, hrest, hfirst, hlast, hA, htakes, hrests'⟩ := exec_pulse_splice hstate hclock hreleases hschedule hdue hspans
    hlo hhi hall fun a' b' h h' h'' => hleast a' b' ⟨h, h', h''⟩
  subst hfirst hlast
  refine ⟨t, ht, hrest, ?_⟩
  intro others start clipped opens
  have hremaining : A.remaining = others := htakes.remaining
  have hclips : clippedStart A.remaining A.first A.last = start := by
    rw [hremaining]
    unfold clippedStart
    simp only [clips_eq]
    rfl
  obtain ⟨u, hrests, hspan, hempty⟩ := openSplice_core hA hclips
  have hrests := hrests.trans hrests'
  have hclipped : (A.absorbed.any fun d => d.spanStart < start) = true ↔ clipped := by
    rw [List.any_eq_true]
    refine exists_congr fun y => ?_
    rw [htakes.absorbed, decide_eq_true_eq, and_assoc]
  have hnotabsorbs : ∀ y ∈ others, absorbs A.first A.last y = false := fun y hy => (htakes.clear y (hremaining ▸ hy)).not_absorbs
  rcases Nat.lt_or_ge A.last start with hnone | hsome
  case inl =>
    obtain ⟨htable, hidles, hreport⟩ := htakes.missed hrests (hempty hnone)
    rw [hremaining] at htable
    have hopens : ¬ opens := fun h => absurd h.1 (Nat.not_le.mpr hnone)
    have hcounts : (!A.absorbed.isEmpty) = rd.table.any (absorbs A.first A.last) := by
      rw [Bool.eq_iff_iff, Bool.not_eq_true', List.isEmpty_eq_false_iff_exists_mem, List.any_eq_true]
      exact exists_congr htakes.absorbed
    rw [hcounts] at hreport
    exact ⟨fun y hy => hnotabsorbs y (htable ▸ hy), hidles, fun h => absurd h hopens, fun _ => htable, fun hbound =>
      ⟨fun h => absurd h hopens, fun h => absurd h (Nat.not_le.mpr hnone), fun _ => hreport hbound⟩⟩
  case inr =>
    by_cases hroom : others.length < 32
    · have hopens : opens := ⟨hsome, hroom⟩
      obtain ⟨hmem, hclear, hidles, hcounted⟩ := htakes.opens hrests (hremaining ▸ hroom) hsome (hspan hsome)
      refine ⟨fun y hy => (hclear y hy).not_absorbs, hidles, fun _ => hmem, fun h => absurd hopens h,
        fun hbound => ⟨fun _ hclip => ?_, fun _ h => absurd hopens h, fun h => absurd hsome (Nat.not_le.mpr h)⟩⟩
      rw [hclipped.mpr hclip] at hcounted
      exact hcounted hbound
    · have hopens : ¬ opens := fun h => hroom h.2
      obtain ⟨htable, hidles, hgap, hcounted⟩ := htakes.full hrests (hremaining ▸ hroom) (hspan hsome)
      rw [hremaining] at htable
      refine ⟨fun y hy => hnotabsorbs y (htable ▸ hy), hidles, fun h => absurd h hopens, fun _ => htable, fun hbound =>
        ⟨fun h => absurd h hopens, fun _ _ => ⟨hgap, fun hclip => ?_, fun hclip => ?_⟩, fun h => absurd hsome (Nat.not_le.mpr h)⟩⟩
      · rw [hclipped.mpr hclip] at hcounted
        exact hcounted hbound
      · rw [Bool.eq_false_iff.mpr (mt hclipped.mp hclip)] at hcounted
        exact hcounted hbound

end Sys2Proof.Machine
end

section
/-! What the table's work beside a lane leaves of it: its detector, the OPEN entry of its run, and the committed entries. -/

namespace Sys2Proof.Machine

/-! ## Tables -/

/-- The OPEN entries of a lane's runs stand, and so do the committed entries. -/
structure Aside (l : Lane) (t t' : List Defect) : Prop where
  runs : t'.filter (isRunOf l) = t.filter (isRunOf l)
  committed : ∀ d ∈ t, d.state = .committed → d ∈ t'

theorem Aside.refl (l : Lane) (t : List Defect) : Aside l t t := ⟨rfl, fun _ h _ => h⟩

theorem Aside.trans {l : Lane} {t u v : List Defect} (a : Aside l t u) (b : Aside l u v) : Aside l t v :=
  ⟨b.runs.trans a.runs, fun d hd h => b.committed d (a.committed d hd h) h⟩

/-- An entry as it stood, or a CLOSED one that has been cut or committed. -/
def Defect.Touched (d d' : Defect) : Prop :=
  d' = d ∨ (d.state = .closed ∧ d'.state ≠ .opened ∧ d'.lanes = d.lanes ∧ d'.spanStart = d.spanStart ∧ d'.spanEnd = d.spanEnd)

theorem isRunOf_of_not_opened {l : Lane} {d : Defect} (h : d.state ≠ .opened) : isRunOf l d = false := by
  rw [← Bool.not_eq_true, isRunOf_iff]
  exact fun ⟨_, h', _⟩ => h h'

theorem Defect.Touched.run {l : Lane} {d d' : Defect} (h : d.Touched d') : d' = d ∨ isRunOf l d' = false ∧ isRunOf l d = false :=
  h.imp_right fun ⟨hclosed, hopened, _⟩ => ⟨isRunOf_of_not_opened hopened, isRunOf_of_not_opened (by rw [hclosed]; decide)⟩

theorem filter_runs_of_touched {l : Lane} {t t' : List Defect} (h : List.Forall₂ Defect.Touched t t') :
    t'.filter (isRunOf l) = t.filter (isRunOf l) := by
  induction h with
  | nil => rfl
  | cons hd _ ih =>
    rcases hd.run (l := l) with rfl | ⟨h', h⟩
    · rw [List.filter_cons, List.filter_cons, ih]
    · rw [List.filter_cons_of_neg (by simp [h']), List.filter_cons_of_neg (by simp [h]), ih]

theorem Aside.of_touched {l : Lane} {t t' : List Defect} (h : List.Forall₂ Defect.Touched t t') : Aside l t t' := by
  refine ⟨filter_runs_of_touched h, ?_⟩
  induction h with
  | nil => exact fun _ h _ => h
  | cons hd _ ih =>
    intro d hmem hcommitted
    rcases List.mem_cons.mp hmem with rfl | hmem
    · rcases hd with rfl | ⟨hclosed, _⟩
      · exact List.mem_cons_self
      · rw [hclosed] at hcommitted
        cases hcommitted
    · exact List.mem_cons_of_mem _ (ih d hmem hcommitted)

/-- An entry that is no run of the lane, and not committed, may be replaced by another that is no run of it. -/
theorem Aside.set {l : Lane} {t : List Defect} {k : Nat} {d c : Defect} (hk : t[k]? = some d) (hd : isRunOf l d = false)
    (hstate : d.state ≠ .committed) (hc : isRunOf l c = false) : Aside l t (t.set k c) := by
  induction t generalizing k with
  | nil => exact .refl l []
  | cons x t ih =>
    cases k with
    | zero =>
      obtain rfl : x = d := Option.some.inj hk
      refine ⟨?_, fun y hy h => ?_⟩
      · rw [List.set_cons_zero, List.filter_cons_of_neg (by simp [hc]), List.filter_cons_of_neg (by simp [hd])]
      · rcases List.mem_cons.mp hy with rfl | hy
        · exact absurd h hstate
        · exact List.mem_cons_of_mem _ hy
    | succ k =>
      obtain ⟨hruns, hcommitted⟩ := ih (k := k) hk
      refine ⟨?_, fun y hy h => ?_⟩
      · rw [List.set_cons_succ, List.filter_cons, List.filter_cons, hruns]
      · rcases List.mem_cons.mp hy with rfl | hy
        · exact List.mem_cons_self
        · exact List.mem_cons_of_mem _ (hcommitted y hy h)

theorem filter_fileDefect {p : Defect → Bool} {d : Defect} (h : p d = false) (t : List Defect) :
    (fileDefect t d).filter p = t.filter p := by
  unfold fileDefect
  rw [List.filter_append, List.filter_cons_of_neg (by simp [h]), ← List.filter_append, List.takeWhile_append_dropWhile]

theorem Aside.file {l : Lane} {d : Defect} (h : isRunOf l d = false) (t : List Defect) : Aside l t (fileDefect t d) :=
  ⟨filter_fileDefect h t, fun _ hy _ => (fileDefect_perm t d).mem_iff.mpr (List.mem_cons_of_mem _ hy)⟩

/-- A change of the entries that leaves the lane's runs and the committed ones. -/
theorem Aside.map {l : Lane} {t : List Defect} {f : Defect → Defect}
    (h : ∀ d ∈ t, f d = d ∨ (isRunOf l d = false ∧ isRunOf l (f d) = false ∧ d.state ≠ .committed)) : Aside l t (t.map f) := by
  induction t with
  | nil => exact .refl l []
  | cons x t ih =>
    obtain ⟨hruns, hcommitted⟩ := ih fun d hd => h d (List.mem_cons_of_mem _ hd)
    rw [List.map_cons]
    rcases h x List.mem_cons_self with hx | ⟨hrun, hrun', hstate⟩
    · rw [hx]
      refine ⟨by rw [List.filter_cons, List.filter_cons, hruns], fun y hy hcom => ?_⟩
      exact (List.mem_cons.mp hy).elim (fun heq => heq ▸ List.mem_cons_self) fun hy => List.mem_cons_of_mem _ (hcommitted y hy hcom)
    · refine ⟨?_, fun y hy hcom => ?_⟩
      · rw [List.filter_cons_of_neg (by simp [hrun']), List.filter_cons_of_neg (by simp [hrun]), hruns]
      · rcases List.mem_cons.mp hy with rfl | hy
        · exact absurd hcom hstate
        · exact List.mem_cons_of_mem _ (hcommitted y hy hcom)

/-- Entries that are no run of the lane, and not committed, may leave. -/
theorem Aside.filter {l : Lane} {t : List Defect} {p : Defect → Bool} (h : ∀ d ∈ t, isRunOf l d = true ∨ d.state = .committed → p d = true) :
    Aside l t (t.filter p) := by
  refine ⟨?_, fun d hd hcom => List.mem_filter.mpr ⟨hd, h d hd (.inr hcom)⟩⟩
  rw [List.filter_filter]
  refine List.filter_congr fun d hd => ?_
  cases hrun : isRunOf l d with
  | false => rfl
  | true => rw [h d hd (.inl hrun)]; rfl

theorem Aside.eraseIdx {l : Lane} {t : List Defect} {k : Nat} {d : Defect} (hk : t[k]? = some d) (hd : isRunOf l d = false)
    (hstate : d.state ≠ .committed) : Aside l t (t.eraseIdx k) := by
  induction t generalizing k with
  | nil => exact .refl l []
  | cons x t ih =>
    cases k with
    | zero =>
      obtain rfl : x = d := Option.some.inj hk
      refine ⟨(List.filter_cons_of_neg (by simp [hd])).symm, fun y hy h => ?_⟩
      exact (List.mem_cons.mp hy).elim (fun heq => absurd (heq ▸ h) hstate) id
    | succ k =>
      obtain ⟨hruns, hcommitted⟩ := ih (k := k) hk
      refine ⟨?_, fun y hy h => ?_⟩
      · rw [List.eraseIdx_cons_succ, List.filter_cons, List.filter_cons, hruns]
      · exact (List.mem_cons.mp hy).elim (fun heq => heq ▸ List.mem_cons_self) fun hy => List.mem_cons_of_mem _ (hcommitted y hy h)

/-! ## Commits and cuts -/

theorem forall₂_of_getElem? {R : Defect → Defect → Prop} {t t' : List Defect} (hlength : t'.length = t.length)
    (h : ∀ (k : Nat) (d : Defect), t[k]? = some d → ∃ d', t'[k]? = some d' ∧ R d d') : List.Forall₂ R t t' := by
  rw [List.forall₂_iff_get]
  refine ⟨hlength.symm, fun i hi hi' => ?_⟩
  obtain ⟨d', hd', hR⟩ := h i _ (List.getElem?_eq_getElem hi)
  obtain rfl : t'[i] = d' := Option.some.inj ((List.getElem?_eq_getElem hi').symm.trans hd')
  exact hR

/-- The commit of CLOSED entries touches no other. -/
theorem commitPositions_touched (r : ReaderId) {test : Defect → Bool} {ks : List Nat} {s : State} (hks : ks.Sublist (positions (s.rd r).table test))
    (h : ∀ d, test d = true → d.state = .closed) : List.Forall₂ Defect.Touched (s.rd r).table ((commitAll r ks s).rd r).table := by
  have hmem : ∀ k ∈ ks, ∃ d, (s.rd r).table[k]? = some d ∧ d.state = .closed := fun k hk => by
    obtain ⟨d, hd, htest⟩ := mem_positions.mp (hks.subset hk)
    exact ⟨d, hd, h d htest⟩
  have hcommits := commitAll_commits (r := r) (s := s) (ks := ks) ((nodup_positions _ _).sublist hks) fun k hk => by
    obtain ⟨d, hd, _⟩ := hmem k hk
    exact (List.getElem?_eq_some_iff.mp hd).1
  refine forall₂_of_getElem? hcommits.length fun k d hd => ?_
  obtain ⟨d', hd', hone⟩ := hcommits.entry k d hd
  refine ⟨d', hd', ?_⟩
  split at hone
  · rename_i hk
    obtain ⟨d₀, hd₀, hclosed⟩ := hmem k hk
    obtain rfl : d₀ = d := Option.some.inj (hd₀.symm.trans hd)
    exact .inr ⟨hclosed, by rw [hone.state]; decide, hone.lanes, hone.spanStart, hone.spanEnd⟩
  · exact .inl hone

theorem Defect.Touched.trans {a b c : Defect} (h : a.Touched b) (h' : b.Touched c) : a.Touched c := by
  rcases h with rfl | ⟨hclosed, hopened, hlanes, hstart, hend⟩
  · exact h'
  · rcases h' with rfl | ⟨_, hopened', hlanes', hstart', hend'⟩
    · exact .inr ⟨hclosed, hopened, hlanes, hstart, hend⟩
    · exact .inr ⟨hclosed, hopened', hlanes'.trans hlanes, hstart'.trans hstart, hend'.trans hend⟩

theorem touched_trans {t u v : List Defect} (h : List.Forall₂ Defect.Touched t u) (h' : List.Forall₂ Defect.Touched u v) :
    List.Forall₂ Defect.Touched t v := by
  induction h generalizing v with
  | nil => exact h'
  | cons hd _ ih =>
    cases h' with
    | cons hd' htail => exact .cons (hd.trans hd') (ih htail)

theorem cutEntries_touched (r : ReaderId) (reached along : Defect → Bool) (s : State) (halong : ∀ d, along d = true → d.state = .closed) :
    List.Forall₂ Defect.Touched (s.rd r).table ((cutEntries r reached along s).rd r).table := by
  have hmarked : List.Forall₂ Defect.Touched (s.rd r).table ((s.rd r).mapTable (fun d => d.state == .closed && reached d &&
      !d.afterEntered (s.rd r).entered) fun d => { d with cut := true }).table := by
    refine List.forall₂_map_right_iff.mpr (List.forall₂_same.mpr fun d _ => ?_)
    split
    · rename_i hcut
      simp only [Bool.and_eq_true, beq_iff_eq] at hcut
      exact .inr ⟨hcut.1.1, by rw [hcut.1.1]; decide, rfl, rfl, rfl⟩
    · exact .inl rfl
  refine touched_trans (u := ((s.onReader r fun x => x.mapTable (fun d => d.state == .closed && reached d &&
    !d.afterEntered (s.rd r).entered) fun d => { d with cut := true }).rd r).table) ?_ (commitPositions_touched r List.filter_sublist
      fun d hd => ?_)
  · rw [State.rd_onReader_self]
    exact hmarked
  · rcases Bool.or_eq_true_iff.mp hd with hd | hd
    · simp only [Bool.and_eq_true, beq_iff_eq] at hd
      exact hd.1.1
    · exact halong d hd

/-! ## The work on one lane leaves the run of the other -/

/-- From s to u a lane's detector stands, and so do its runs' entries and the committed ones. -/
structure LeavesRun (r : ReaderId) (l : Lane) (s u : State) : Prop where
  detector : u.detector r l = s.detector r l
  aside : Aside l (s.rd r).table (u.rd r).table

theorem LeavesRun.refl (r : ReaderId) (l : Lane) (s : State) : LeavesRun r l s s := ⟨rfl, .refl l _⟩

theorem LeavesRun.trans {r : ReaderId} {l : Lane} {s t u : State} (a : LeavesRun r l s t) (b : LeavesRun r l t u) : LeavesRun r l s u :=
  ⟨b.detector.trans a.detector, a.aside.trans b.aside⟩

theorem LeavesRun.of_moving {r : ReaderId} {l : Lane} {s u : State} (h : (u.rd r).moving = (s.rd r).moving) : LeavesRun r l s u :=
  ⟨Moving.detector_eq h l, by rw [show (u.rd r).table = (s.rd r).table from congrArg Moving.table h]; exact .refl l _⟩

theorem LeavesRun.settles {r : ReaderId} {l : Lane} {s t u : State} (h : LeavesRun r l s t) (hsettles : Settles t u) : LeavesRun r l s u :=
  h.trans (.of_moving (moving_of_calm (hsettles.1.calm r)))

theorem LeavesRun.watches {r : ReaderId} {l : Lane} {s t : State} (h : LeavesRun r l s t) : LeavesRun r l s t.evaluateWatches :=
  h.settles t.evaluateWatches_settles

theorem isRunOf_other {l k : Lane} (h : l ≠ k) {d : Defect} (hd : isRunOf k d = true) : isRunOf l d = false := by
  obtain ⟨_, _, hlanes⟩ := isRunOf_iff.mp hd
  rw [← Bool.not_eq_true, isRunOf_iff, hlanes]
  rintro ⟨_, _, heq⟩
  exact h (LaneMask.only.inj heq).symm

theorem isRunOf_state {l : Lane} {d : Defect} (h : isRunOf l d = true) : d.state ≠ .committed := by
  obtain ⟨_, hstate, _⟩ := isRunOf_iff.mp h
  rw [hstate]
  decide

theorem Reader.table_onDetector (rd : Reader) (l : Lane) (f : Detector → Detector) : (rd.onDetector l f).table = rd.table :=
  Reader.table_onLane _ _ _

theorem State.table_onDetector (s : State) (r : ReaderId) (l : Lane) (f : Detector → Detector) :
    ((s.onDetector r l f).rd r).table = (s.rd r).table := by
  unfold State.onDetector
  rw [State.rd_onReader_self]
  exact Reader.table_onLane _ _ _

theorem State.detector_onDetector (s : State) (r : ReaderId) (l k : Lane) (f : Detector → Detector) :
    (s.onDetector r k f).detector r l = if l = k then f (s.detector r l) else s.detector r l := by
  unfold State.onDetector State.detector
  rw [State.rd_onReader_self]
  cases l <;> cases k <;> rfl

/-- The entries that commit along with those a run cuts are CLOSED. -/
theorem closed_of_along {b : Bool} {l : Lane} {n : Nat} {d : Defect} (h : (d.dueAtEntry n || (b && d.cutByRun l n)) = true) :
    d.state = .closed := by
  simp only [Defect.dueAtEntry, Defect.dueDeadline, Defect.dueComplete, Defect.dueCut, Defect.cutByRun, Bool.or_eq_true,
    Bool.and_eq_true, beq_iff_eq] at h
  rcases h with ((⟨h, _⟩ | ⟨h, _⟩) | ⟨⟨h, _⟩, _⟩) | ⟨_, ⟨⟨h, _⟩, _⟩, _⟩
  all_goals exact h

section
variable {r : ReaderId} {l k : Lane} (hne : l ≠ k)
include hne

theorem leaves_onDetector (f : Detector → Detector) (s : State) : LeavesRun r l s (s.onDetector r k f) :=
  ⟨by rw [State.detector_onDetector, if_neg hne], by rw [State.table_onDetector]; exact .refl l _⟩

omit hne in
theorem leaves_table {f : Reader → Reader} {s : State} (hdetector : ∀ x : Reader, (f x).lane l = x.lane l)
    (h : Aside l (s.rd r).table (f (s.rd r)).table) : LeavesRun r l s (s.onReader r f) := by
  refine ⟨State.detector_onReader (congrArg LaneState.detector (hdetector _)), ?_⟩
  rw [State.rd_onReader_self]
  exact h

omit hne in
theorem leaves_commitWatched {j : Nat} {d : Defect} {s : State} (hj : (s.rd r).table[j]? = some d) (hd : isRunOf l d = false)
    (hstate : d.state ≠ .committed) (complete : Bool) : LeavesRun r l s (commitWatched r j complete s) := by
  refine ⟨State.detector_commitWatched r j complete s l, ?_⟩
  obtain ⟨d', hd', htable⟩ := commitWatched_table hj complete
  rw [htable]
  exact .set hj hd hstate (isRunOf_of_not_opened (by rw [hd'.state]; decide))

omit hne in
theorem leaves_cutEntries (reached : Defect → Bool) {along : Defect → Bool} (halong : ∀ d, along d = true → d.state = .closed) (s : State) :
    LeavesRun r l s (cutEntries r reached along s) :=
  ⟨State.detector_cutEntries r reached along s l, .of_touched (cutEntries_touched r reached along s halong)⟩

theorem leaves_closeRun (finalEnd : Nat) (s : State) : LeavesRun r l s (closeRun r k finalEnd s) := by
  refine ⟨by rw [State.detector_closeRun, if_neg hne], ?_⟩
  have hidle : ((s.onReader r fun x => x.idleLane k).rd r).table = (s.rd r).table := by
    rw [State.rd_onReader_self, Reader.table_idleLane]
  unfold closeRun
  dsimp only
  split
  · rw [hidle]
    exact .refl l _
  · rename_i d hd
    obtain ⟨hlt, hget⟩ := List.getElem?_eq_some_iff.mp hd
    have hrun : isRunOf k d = true := hget ▸ List.findIdx_getElem
    have hset : Aside l (s.rd r).table (((s.onReader r fun x => x.idleLane k).onReader r fun x =>
        x.setEntry ((s.rd r).table.findIdx (isRunOf k)) { d with spanEnd := finalEnd, state := .closed }).rd r).table := by
      rw [State.rd_onReader_self]
      unfold Reader.setEntry
      dsimp only
      rw [hidle]
      exact .set hd (isRunOf_other hne hrun) (isRunOf_state hrun) (isRunOf_of_not_opened nofun)
    split
    · rw [State.rd_onReader_self]
      refine ((Aside.eraseIdx hd (isRunOf_other hne hrun) (isRunOf_state hrun)).trans (.filter fun y _ hy => ?_)).trans
        (.file (isRunOf_of_not_opened (show EntryState.closed ≠ .opened by decide)) _)
      rw [Bool.not_eq_true', ← Bool.not_eq_true]
      intro hmerges
      simp only [mergesWith, Bool.and_eq_true, beq_iff_eq] at hmerges
      have hclosed : y.state = .closed := hmerges.1.1.1
      rcases hy with hy | hy
      · rw [isRunOf_of_not_opened (by rw [hclosed]; decide)] at hy
        cases hy
      · rw [hclosed] at hy
        cases hy
    · split
      · refine hset.trans (leaves_commitWatched (d := { d with spanEnd := finalEnd, state := .closed }) ?_
          (isRunOf_of_not_opened nofun) nofun _).aside
        rw [State.rd_onReader_self]
        unfold Reader.setEntry
        dsimp only
        rw [hidle, List.getElem?_set_self hlt]
      · exact hset

theorem leaves_closeOverlong (s : State) : LeavesRun r l s (closeOverlong r k s) := by
  have hcaught : LeavesRun r l s (s.onReader r fun x => x.onLane k fun ln => { ln with detector := { ln.detector.idle with run := .catchup } }) :=
    leaves_onDetector hne (fun d => { d.idle with run := .catchup }) s
  have htable : ((s.onReader r fun x => x.onLane k fun ln =>
      { ln with detector := { ln.detector.idle with run := .catchup } }).rd r).table = (s.rd r).table := by
    rw [State.rd_onReader_self]
    exact Reader.table_onLane _ _ _
  unfold closeOverlong
  dsimp only
  split
  · exact hcaught
  · rename_i d hd
    obtain ⟨hlt, hget⟩ := List.getElem?_eq_some_iff.mp hd
    have hrun : isRunOf k d = true := hget ▸ List.findIdx_getElem
    refine (hcaught.trans (leaves_table (f := fun x => x.setEntry _ _) (fun x => by cases l <;> rfl) ?_)).trans
      (leaves_commitWatched (d := { d with spanEnd := d.spanStart + (s.rd r).active.lmax, state := .closed }) ?_
        (isRunOf_of_not_opened nofun) nofun _)
    · exact .set (htable ▸ hd) (isRunOf_other hne hrun) (isRunOf_state hrun) (isRunOf_of_not_opened nofun)
    · rw [State.rd_onReader_self]
      unfold Reader.setEntry
      dsimp only
      rw [htable, List.getElem?_set_self hlt]

theorem leaves_openRun (e ratio : Nat) (twinOpens : Bool) (s : State) : LeavesRun r l s (openRun r k e ratio twinOpens s) := by
  unfold openRun
  dsimp only
  have hopened : LeavesRun r l s (((cutEntries r (fun d => d.lanes.has k && ((s.rd r).opensOverlong k e ratio || !d.complete (s.rd r).entered))
      (fun d => d.dueAtEntry (s.rd r).entered || (twinOpens && d.cutByRun (twinOf k) (s.rd r).entered)) s).onReader r
        fun x => { x with table := fileDefect x.table (x.openedEntry k e ratio) }).onDetector r k
          fun d => { d with run := .run, quiet := 0, record := some { firstHot := e, lastHot := e } }) := by
    refine ((leaves_cutEntries _ (fun d hd => ?_) s).trans (leaves_table
      (f := fun x => { x with table := fileDefect x.table (x.openedEntry k e ratio) }) (fun x => by cases l <;> rfl)
      (.file (isRunOf_other hne (k := k) ?_) _))).trans (leaves_onDetector hne _ _)
    · exact closed_of_along hd
    · exact isRunOf_iff.mpr ⟨rfl, rfl, rfl⟩
  split
  · exact hopened.trans (leaves_closeOverlong hne _)
  · exact hopened

theorem leaves_quietSample (s : State) : LeavesRun r l s (quietSample r k s) := by
  unfold quietSample
  dsimp only
  have hquiet : LeavesRun r l s (s.onDetector r k fun d => { d with quiet := d.quiet + 1 }) := leaves_onDetector hne _ s
  split
  · exact hquiet.trans (leaves_closeRun hne _ _)
  · split
    · exact hquiet.trans (leaves_onDetector hne _ _)
    · exact hquiet

theorem leaves_growRun (lastHot ratio : Nat) (s : State) : LeavesRun r l s (s.onReader r fun x => x.growRun k lastHot ratio) := by
  refine leaves_table (fun x => Reader.lane_mapTable x _ _ l) (.map fun d _ => ?_)
  by_cases hrun : isRunOf k d = true
  · rw [if_pos hrun]
    have hgrown : isRunOf k { d with spanEnd := tentativeEnd (s.rd r).table k lastHot (s.rd r).active.guard, peak := max d.peak ratio } = true :=
      hrun
    exact .inr ⟨isRunOf_other hne hrun, isRunOf_other hne hgrown, isRunOf_state hrun⟩
  · rw [if_neg hrun]
    exact .inl rfl

theorem leaves_actOnRun (e : Nat) (hot covered : Bool) (ratio : Nat) (twinOpens : Bool) (s : State) :
    LeavesRun r l s (actOnRun r k e hot covered ratio twinOpens s) := by
  unfold actOnRun
  split
  · split
    · split
      · exact leaves_openRun hne e ratio twinOpens s
      · exact (leaves_table (f := Reader.countUnrecorded) (fun x => by cases l <;> rfl) (.refl l _)).trans (leaves_onDetector hne _ _)
    · exact .refl r l s
  · split
    · unfold extendRun
      dsimp only
      have hgrown := (leaves_onDetector (r := r) hne (fun d => { d with quiet := 0, record := d.record.map fun x => { x with lastHot := e } })
        s).trans (leaves_growRun hne e ratio _)
      split
      · exact hgrown.trans (leaves_closeOverlong hne _)
      · exact hgrown
    · exact leaves_quietSample hne s
  · split
    · exact .refl r l s
    · exact leaves_onDetector hne _ s
  · split
    · exact leaves_onDetector hne _ s
    · exact leaves_quietSample hne s

theorem leaves_detectLane (e : Nat) (x : Sample) (y : Option Sample) (s : State) : LeavesRun r l s (detectLane r k e x y s) := by
  unfold detectLane
  dsimp only
  refine (LeavesRun.trans ?_ (leaves_onDetector hne (·.shift x) _)).watches
  split
  · exact leaves_onDetector hne _ s
  · split
    · unfold suspendedSample
      split
      · exact .refl r l s
      · exact leaves_quietSample hne s
      · exact leaves_onDetector hne _ s
      · exact leaves_quietSample hne s
    · unfold judgeSample
      dsimp only
      refine LeavesRun.trans ?_ (leaves_actOnRun hne e _ _ _ _ _)
      split
      · exact leaves_onDetector hne _ s
      · exact .refl r l s

end

end Sys2Proof.Machine
end

section
/-! The lane whose detector an entry event takes first or last, beside its twin (R48, R71, R73). -/

namespace Sys2Proof.Machine

/-! ## The spans of a lane's entries -/

/-- The spans of a lane's entries in table order, and which of them are its runs'. -/
def spansOn (l : Lane) (t : List Defect) : List (Nat × Nat × Bool) :=
  (t.filter fun d => d.lanes.has l).map fun d => (d.spanStart, d.spanEnd, isRunOf l d)

theorem spansOn_cons (l : Lane) (d : Defect) (t : List Defect) :
    spansOn l (d :: t) = if d.lanes.has l then (d.spanStart, d.spanEnd, isRunOf l d) :: spansOn l t else spansOn l t := by
  unfold spansOn
  rw [List.filter_cons]
  cases d.lanes.has l <;> rfl

theorem spansOn_of_touched {l : Lane} {t t' : List Defect} (h : List.Forall₂ Defect.Touched t t') : spansOn l t' = spansOn l t := by
  induction h with
  | nil => rfl
  | cons hd _ ih =>
    rw [spansOn_cons, spansOn_cons, ih]
    rcases hd with rfl | ⟨hclosed, hopened, hlanes, hstart, hend⟩
    · rfl
    · rw [hlanes, hstart, hend, isRunOf_of_not_opened hopened, isRunOf_of_not_opened (by rw [hclosed]; decide)]

theorem spansOn_fileDefect {l : Lane} {d : Defect} (h : d.lanes.has l = false) (t : List Defect) :
    spansOn l (fileDefect t d) = spansOn l t :=
  congrArg (List.map _) (filter_fileDefect h t)

theorem spansOn_set {l : Lane} {t : List Defect} {k : Nat} {d c : Defect} (hk : t[k]? = some d) (hd : d.lanes.has l = false)
    (hc : c.lanes.has l = false) : spansOn l (t.set k c) = spansOn l t := by
  induction t generalizing k with
  | nil => rfl
  | cons x t ih =>
    cases k with
    | zero =>
      obtain rfl : x = d := Option.some.inj hk
      rw [List.set_cons_zero, spansOn_cons, spansOn_cons, hc, hd]
      rfl
    | succ k => rw [List.set_cons_succ, spansOn_cons, spansOn_cons, ih (k := k) hk]

theorem covered_eq (rd : Reader) (l : Lane) (e : Nat) :
    rd.covered l e = (spansOn l rd.table).any fun k => decide (k.1 ≤ e) && decide (e ≤ k.2.1) && !k.2.2 := by
  unfold Reader.covered
  induction rd.table with
  | nil => rfl
  | cons d t ih =>
    rw [List.any_cons, ih, spansOn_cons]
    cases d.lanes.has l with
    | false => rfl
    | true => rfl

theorem openingStart_eq (t : List Defect) (l : Lane) (e guard n : Nat) :
    openingStart t l e guard n =
      (spansOn l t).foldl (fun x k => if k.2.1 < e then max x (k.2.1 + 1) else x) (max (e - guard) (oldestIndex n)) := by
  unfold openingStart
  generalize max (e - guard) (oldestIndex n) = x
  induction t generalizing x with
  | nil => rfl
  | cons d t ih =>
    rw [List.foldl_cons, ih, spansOn_cons]
    cases d.lanes.has l with
    | false => rfl
    | true =>
      rw [if_pos rfl, List.foldl_cons]
      simp [Defect.after]

theorem tentativeEnd_eq (t : List Defect) (l : Lane) (lastHot guard : Nat) :
    tentativeEnd t l lastHot guard =
      (spansOn l t).foldl (fun x k => if lastHot < k.1 then min x (k.1 - 1) else x) (lastHot + guard) := by
  unfold tentativeEnd
  generalize lastHot + guard = x
  induction t generalizing x with
  | nil => rfl
  | cons d t ih =>
    rw [List.foldl_cons, ih, spansOn_cons]
    cases d.lanes.has l with
    | false => rfl
    | true =>
      rw [if_pos rfl, List.foldl_cons]
      simp

/-! ## A twin that has no run to close -/

/-- The lane's spans stand, and at most one entry has joined the table. -/
structure KeepsSpans (l : Lane) (t t' : List Defect) : Prop where
  spans : spansOn l t' = spansOn l t
  grows : t.length ≤ t'.length
  room : t'.length ≤ t.length + 1

theorem KeepsSpans.refl (l : Lane) (t : List Defect) : KeepsSpans l t t := ⟨rfl, le_rfl, Nat.le_succ _⟩

theorem LaneMask.has_only {l k : Lane} (h : l ≠ k) : (LaneMask.only k).has l = false :=
  beq_eq_false_iff_ne.mpr h.symm

section
variable {r : ReaderId} {l k : Lane} (hne : l ≠ k)
include hne

theorem closeOverlong_spans (s : State) :
    spansOn l ((closeOverlong r k s).rd r).table = spansOn l (s.rd r).table ∧
      ((closeOverlong r k s).rd r).table.length = (s.rd r).table.length := by
  rcases closeOverlong_table r k s with ⟨_, htable⟩ | ⟨d, d', hd, hd', htable⟩
  · rw [htable]
    exact ⟨rfl, rfl⟩
  · obtain ⟨hlt, hget⟩ := List.getElem?_eq_some_iff.mp hd
    obtain ⟨_, _, hlanes⟩ := isRunOf_iff.mp (hget ▸ List.findIdx_getElem : isRunOf k d = true)
    have hhas : d.lanes.has l = false := by rw [hlanes, LaneMask.has_only hne]
    rw [htable]
    exact ⟨spansOn_set hd hhas (by rw [hd'.lanes]; exact hhas), List.length_set⟩

theorem openRun_spans (e ratio : Nat) (twinOpens : Bool) (s : State) :
    KeepsSpans l (s.rd r).table ((openRun r k e ratio twinOpens s).rd r).table := by
  have hopened : ∀ u : State, List.Forall₂ Defect.Touched (s.rd r).table (u.rd r).table →
      KeepsSpans l (s.rd r).table (((u.onReader r fun x => { x with table := fileDefect x.table (x.openedEntry k e ratio) }).onDetector r k
        fun d => { d with run := .run, quiet := 0, record := some { firstHot := e, lastHot := e } }).rd r).table := by
    intro u hu
    rw [State.table_onDetector, State.rd_onReader_self]
    have hlength := (fileDefect_perm (u.rd r).table ((u.rd r).openedEntry k e ratio)).length_eq
    rw [List.length_cons, ← hu.length_eq] at hlength
    exact ⟨(spansOn_fileDefect (LaneMask.has_only hne) _).trans (spansOn_of_touched hu), hlength ▸ Nat.le_succ _, hlength.le⟩
  have htouched := cutEntries_touched r (fun d => d.lanes.has k && ((s.rd r).opensOverlong k e ratio || !d.complete (s.rd r).entered))
    (fun d => d.dueAtEntry (s.rd r).entered || (twinOpens && d.cutByRun (twinOf k) (s.rd r).entered)) s fun d => closed_of_along
  obtain ⟨hspans, hgrows, hroom⟩ := hopened _ htouched
  unfold openRun
  dsimp only
  split
  · obtain ⟨hspans', hlength⟩ := closeOverlong_spans hne (r := r) (l := l) (k := k) _
    exact ⟨hspans'.trans hspans, hlength ▸ hgrows, hlength ▸ hroom⟩
  · exact ⟨hspans, hgrows, hroom⟩

end

theorem State.detector_onDetector_self (s : State) (r : ReaderId) (k : Lane) (f : Detector → Detector) :
    (s.onDetector r k f).detector r k = f (s.detector r k) :=
  (State.detector_onDetector s r k k f).trans (if_pos rfl)

/-- A quiet sample on a lane that has no run leaves the table. -/
theorem quietSample_table {r : ReaderId} {k : Lane} {s : State} (h : (s.detector r k).run ≠ .run) :
    ((quietSample r k s).rd r).table = (s.rd r).table := by
  have hdue : ((s.onDetector r k fun d => { d with quiet := d.quiet + 1 }).rd r).closeDue k = false := by
    have hrun : (((s.onDetector r k fun d => { d with quiet := d.quiet + 1 }).rd r).lane k).detector.run = (s.detector r k).run :=
      (congrArg Detector.run (State.detector_onDetector_self s r k fun d => { d with quiet := d.quiet + 1 }) :)
    unfold Reader.closeDue
    rw [hrun, beq_eq_false_iff_ne.mpr h, Bool.false_and]
  unfold quietSample
  dsimp only
  rw [hdue, if_neg Bool.false_ne_true]
  split
  · exact (State.table_onDetector _ r k _).trans (State.table_onDetector _ r k _)
  · exact State.table_onDetector _ r k _

theorem suspendedSample_table {r : ReaderId} {k : Lane} {s : State} (h : (s.detector r k).run ≠ .run) :
    ((suspendedSample r k s).rd r).table = (s.rd r).table := by
  unfold suspendedSample
  split
  · rfl
  · exact quietSample_table h
  · exact State.table_onDetector _ r k _
  · exact quietSample_table h

theorem actOnRun_spans {r : ReaderId} {l k : Lane} (hne : l ≠ k) {s : State} (h : (s.detector r k).run ≠ .run) (e : Nat)
    (hot covered : Bool) (ratio : Nat) (twinOpens : Bool) :
    KeepsSpans l (s.rd r).table ((actOnRun r k e hot covered ratio twinOpens s).rd r).table := by
  have hself : ∀ u : State, (u.rd r).table = (s.rd r).table → KeepsSpans l (s.rd r).table (u.rd r).table := fun u hu =>
    hu ▸ .refl l _
  unfold actOnRun
  split
  · split
    · split
      · exact openRun_spans hne e ratio twinOpens s
      · refine hself _ ((State.table_onDetector _ r k _).trans ?_)
        rw [State.rd_onReader_self]
        rfl
    · exact .refl l _
  · rename_i hrun
    exact absurd hrun h
  · split
    · exact .refl l _
    · exact hself _ (State.table_onDetector _ r k _)
  · split
    · exact hself _ (State.table_onDetector _ r k _)
    · exact hself _ (quietSample_table h)

theorem detectLane_spans {r : ReaderId} {l k : Lane} (hne : l ≠ k) {s : State} (h : (s.detector r k).run ≠ .run) (e : Nat)
    (x : Sample) (y : Option Sample) : KeepsSpans l (s.rd r).table ((detectLane r k e x y s).rd r).table := by
  unfold detectLane
  dsimp only
  rw [table_of_settles (State.evaluateWatches_settles _), State.table_onDetector]
  split
  · rw [show primeSample r k s = s.onDetector r k _ from rfl, State.table_onDetector]
    exact .refl l _
  · split
    · rw [suspendedSample_table h]
      exact .refl l _
    · unfold judgeSample
      dsimp only
      split
      · rw [← State.table_onDetector s r k fun d =>
          { d with envelope := envelopeAfter (s.rd r).active.envelopeRate d.envelope ((s.detector r k).difference x) }]
        refine actOnRun_spans hne ?_ e _ _ _ _
        rw [State.detector_onDetector_self]
        exact h
      · exact actOnRun_spans hne h e _ _ _ _

/-! ## The table's work behind the detectors -/

theorem Reader.lane_idleWhere {rd : Reader} {b : Bool} {l k : Lane} (h : b = true → l ≠ k) :
    (if b then rd.idleLane k else rd).lane l = rd.lane l := by
  cases b with
  | false => rfl
  | true =>
    have hne := h rfl
    cases l with
    | lane0 =>
      cases k with
      | lane0 => exact absurd rfl hne
      | lane1 => rfl
    | lane1 =>
      cases k with
      | lane0 => rfl
      | lane1 => exact absurd rfl hne

theorem Reader.detector_closeAtDeadline {rd : Reader} {l : Lane}
    (h : ∀ d ∈ rd.table, isRunOf l d = true → d.deadlineReached rd.entered = false) :
    (rd.closeAtDeadline.lane l).detector = (rd.lane l).detector := by
  have hends : (rd.table.any fun d => (d.state == .opened && d.deadlineReached rd.entered) && isRunOf l d) = false := by
    rw [List.any_eq_false]
    intro d hd hhit
    obtain ⟨hhit, hrun⟩ := Bool.and_eq_true_iff.mp hhit
    rw [h d hd hrun, Bool.and_false] at hhit
    cases hhit
  have hother : ∀ k, (rd.table.any fun d => (d.state == .opened && d.deadlineReached rd.entered) && isRunOf k d) = true → l ≠ k := by
    rintro k hk rfl
    rw [hends] at hk
    cases hk
  exact congrArg LaneState.detector ((Reader.lane_idleWhere (hother .lane1)).trans
    ((Reader.lane_idleWhere (hother .lane0)).trans (Reader.lane_mapTable _ _ _ l)))

theorem leaves_tableAtEntry {r : ReaderId} {l : Lane} {s : State}
    (h : ∀ d ∈ (s.rd r).table, isRunOf l d = true → (s.rd r).entered ≤ d.spanStart + 1023) : LeavesRun r l s (tableAtEntry r s) := by
  have hdeadline : ∀ d ∈ (s.rd r).table, isRunOf l d = true → d.deadlineReached (s.rd r).entered = false := fun d hd hrun =>
    decide_eq_false (Nat.not_lt.mpr (h d hd hrun))
  have hclosed : LeavesRun r l s (s.onReader r fun x => x.closeAtDeadline.closeSplices) := by
    refine ⟨State.detector_onReader ?_, ?_⟩
    · exact (congrArg LaneState.detector (Reader.lane_mapTable _ _ _ l)).trans (Reader.detector_closeAtDeadline hdeadline)
    · rw [State.rd_onReader_self]
      refine Aside.trans ?_ (Aside.map (f := fun d => if d.dueSpliceClose (s.rd r).closeAtDeadline.entered then { d with state := .closed } else d)
        fun d _ => ?_)
      · rw [Reader.table_closeAtDeadline]
        refine .map fun d hd => ?_
        split
        · rename_i hhit
          obtain ⟨hstate, hreached⟩ := Bool.and_eq_true_iff.mp hhit
          refine .inr ⟨?_, isRunOf_of_not_opened nofun, by rw [eq_of_beq hstate]; decide⟩
          rw [← Bool.not_eq_true]
          intro hrun
          rw [hdeadline d hd hrun] at hreached
          cases hreached
        · exact .inl rfl
      · split
        · rename_i hdue
          simp only [Defect.dueSpliceClose, Bool.and_eq_true, beq_iff_eq] at hdue
          obtain ⟨⟨hstate, hkind⟩, _⟩ := hdue
          refine .inr ⟨?_, isRunOf_of_not_opened nofun, by rw [hstate]; decide⟩
          rw [← Bool.not_eq_true, isRunOf_iff, hkind]
          exact fun h => nomatch h.1
        · exact .inl rfl
  refine hclosed.trans ⟨State.detector_commitAll r _ _ l, .of_touched (commitPositions_touched r (.refl _) fun d hd => ?_)⟩
  exact closed_of_along (b := false) (l := l) (by rw [hd]; rfl)

/-! ## The entry event about one lane -/

/-- The sample of a lane. -/
def laneSample (l : Lane) (x0 x1 : Sample) : Sample :=
  match l with
  | .lane0 => x0
  | .lane1 => x1

/-- The table that the detectors find (R67). -/
def Reader.keptTable (rd : Reader) : List Defect := rd.table.filter fun y => !(y.state == .committed && decide (y.spanEnd + 1024 ≤ rd.entered))

/-- The state in which a lane's detector takes its sample at an entry event. -/
structure TakesSample (r : ReaderId) (l first : Lane) (x0 x1 : Sample) (s u : State) : Prop where
  yields : Yields r s u ((s.rd r).sampled x0 x1)
  detector : u.detector r l = s.detector r l
  runs : (u.rd r).table.filter (isRunOf l) = (s.rd r).keptTable.filter (isRunOf l)
  keeps : KeepsSpans l (s.rd r).keptTable (u.rd r).table
  firstTaken : first = l → (u.rd r).table.length = (s.rd r).keptTable.length

/-- What comes behind a lane's sample leaves what the sample made of its run. -/
structure LeavesSample (r : ReaderId) (l : Lane) (v t : State) : Prop where
  works : ∃ x, Yields r v t x
  run : (∀ d ∈ (v.rd r).table, isRunOf l d = true → (v.rd r).entered ≤ d.spanStart + 1023) → LeavesRun r l v t

theorem enterStarted_calm (r : ReaderId) (x0 x1 : Sample) (s : State) :
    ((enterStarted r x0 x1 s).rd r).calm = ((s.rd r).sampled x0 x1).removeLeft.calm := by
  obtain ⟨v, hv⟩ : ∃ v, v = s.onReader r fun x => (x.sampled x0 x1).removeLeft := ⟨_, rfl⟩
  have hentered : enterStarted r x0 x1 s = (v.offerStuckChanges r (s.rd r) (s.rd r).index).evaluateWatches := by rw [hv]; rfl
  have hends := ((offerLane_ends v r _ _ _ _).trans (offerLane_ends _ r _ _ _ _)).trans
    (v.offerStuckChanges r (s.rd r) (s.rd r).index).evaluateWatches_settles.1
  rw [hentered, hends.calm r, hv, State.rd_onReader_self]

theorem enterStarted_table (r : ReaderId) (x0 x1 : Sample) (s : State) :
    ((enterStarted r x0 x1 s).rd r).table = (s.rd r).keptTable := by
  refine (congrArg Reader.table (enterStarted_calm r x0 x1 s) :).trans (List.filter_congr fun d _ => ?_)
  change (!(d.state == .committed && decide (d.spanEnd + 1024 < (s.rd r).entered + 1))) = _
  rw [decide_eq_decide.mpr Nat.lt_succ_iff]

theorem enterStarted_detector (r : ReaderId) (x0 x1 : Sample) (s : State) (l : Lane) :
    (enterStarted r x0 x1 s).detector r l = s.detector r l := by
  have hmoving := moving_of_calm (enterStarted_calm r x0 x1 s)
  refine (Moving.detector_eq hmoving l).trans ?_
  cases l <;> rfl

theorem enterStarted_takes (r : ReaderId) (l first : Lane) (x0 x1 : Sample) (s : State) :
    TakesSample r l first x0 x1 s (enterStarted r x0 x1 s) := by
  have htable := enterStarted_table r x0 x1 s
  exact ⟨enterStarted_yields r x0 x1 s, enterStarted_detector r x0 x1 s l, by rw [htable], htable ▸ .refl l _, fun _ => by rw [htable]⟩

theorem twinOf_ne (l : Lane) : l ≠ twinOf l := by cases l <;> decide

/-- A twin that is taken first, with no run to close. -/
theorem twinStarted_takes {r : ReaderId} {l first : Lane} {s : State} (hfirst : first ≠ l)
    (hrun : (s.detector r (twinOf l)).run ≠ .run) (x0 x1 : Sample) (e : Nat) (x : Sample) (y : Option Sample) :
    TakesSample r l first x0 x1 s (detectLane r (twinOf l) e x y (enterStarted r x0 x1 s)) := by
  have htable := enterStarted_table r x0 x1 s
  have hleaves := leaves_detectLane (r := r) (twinOf_ne l) e x y (enterStarted r x0 x1 s)
  have hspans := detectLane_spans (r := r) (s := enterStarted r x0 x1 s) (twinOf_ne l)
    (by rw [enterStarted_detector]; exact hrun) e x y
  refine ⟨(enterStarted_yields r x0 x1 s).work (detectLane_works r _ e x y _),
    hleaves.detector.trans (enterStarted_detector r x0 x1 s l), ?_, htable ▸ hspans, fun h => absurd h hfirst⟩
  rw [hleaves.aside.runs, htable]

/-- What follows the detectors in an entry event that applies no set. -/
theorem afterDetectors_leaves {r : ReaderId} {l : Lane} {x0 x1 : Sample} {s v : State} (hreleases : (s.rd r).params.releases = false)
    (hyields : Yields r s v ((s.rd r).sampled x0 x1)) (c0 c1 : Cell) :
    LeavesSample r l v (monitorAtEntry r ((tableAtEntry r v).onReader r (processRunning c0 c1))).arbitrate := by
  have htable := tableAtEntry_works r v
  have hparams : ((tableAtEntry r v).rd r).params = (s.rd r).params := (congrArg Reader.params (hyields.work htable).still :)
  have hprocessed : ((tableAtEntry r v).onReader r (processRunning c0 c1)).rd r = processRunning c0 c1 ((tableAtEntry r v).rd r) :=
    State.rd_onReader_self _ _ _
  have hrests : Rests r 4 (tableAtEntry r v) (monitorAtEntry r ((tableAtEntry r v).onReader r (processRunning c0 c1))).arbitrate := by
    have hprocess := (Rests.refl r (tableAtEntry r v)).onReader (f := processRunning c0 c1) (moving_processRunning c0 c1 _) rfl rfl
    refine (hprocess.trans (monitorAtEntry_rests ?_)).arbitrate
    rw [hprocessed]
    exact (congrArg Params.releases hparams).trans hreleases
  refine ⟨⟨_, ((htable.onReader (still_processRunning c0 c1) (moving_processRunning c0 c1 _)).trans still_monitored
    (monitorAtEntry_yields r _)).arbitrate⟩, fun h => ?_⟩
  exact (leaves_tableAtEntry h).trans (.of_moving hrests.moving)

theorem Aside.mem_run {l : Lane} {t t' : List Defect} (h : Aside l t t') {d : Defect} (hrun : isRunOf l d = true) : d ∈ t' ↔ d ∈ t := by
  have hmem : ∀ u : List Defect, d ∈ u.filter (isRunOf l) ↔ d ∈ u := fun u => List.mem_filter.trans (and_iff_left hrun)
  rw [← hmem, h.runs, hmem]

/-- The twin's sample between a lane's own and the rest of the entry event. -/
theorem LeavesSample.behind_twin {r : ReaderId} {l : Lane} {v w t : State} (hworks : Works r v w) (hleaves : LeavesRun r l v w)
    (h : LeavesSample r l w t) : LeavesSample r l v t := by
  obtain ⟨x, hx⟩ := h.works
  have hentered : (w.rd r).entered = (v.rd r).entered := (congrArg Reader.entered hworks.still :)
  refine ⟨⟨x, hx.still, .trans hworks.acts hx.acts, hworks.grows.trans hx.grows, .trans hworks.grows hx.grows hworks.tells hx.tells⟩,
    fun hv => hleaves.trans (h.run fun d hd hrun => ?_)⟩
  rw [hentered]
  exact hv d ((hleaves.aside.mem_run hrun).mp hd) hrun

theorem detectBoth_eq (r : ReaderId) (first : Lane) (e : Nat) (x0 x1 : Sample) (s : State) :
    detectBoth r first e x0 x1 s =
      detectLane r (twinOf first) e (laneSample (twinOf first) x0 x1) none
        (detectLane r first e (laneSample first x0 x1) (some (laneSample (twinOf first) x0 x1)) s) := by
  cases first <;> rfl

theorem twinOf_twinOf (l : Lane) : twinOf (twinOf l) = l := by cases l <;> rfl

theorem eq_twinOf_of_ne {l k : Lane} (h : k ≠ l) : k = twinOf l := by
  cases l with
  | lane0 =>
    cases k with
    | lane0 => exact absurd rfl h
    | lane1 => rfl
  | lane1 =>
    cases k with
    | lane0 => rfl
    | lane1 => exact absurd rfl h

/-- An entry event in RUNNING that applies no set, about the lane that is taken first or whose twin has no run to close. -/
theorem exec_entry_detect {r : ReaderId} {s : State} (x0 x1 : Sample) {l first : Lane} (hclock : (s.rd r).clockLost = false)
    (hstate : (s.rd r).state = .running) (hreleases : (s.rd r).params.releases = false)
    (hfirst : first = l ∨ ((s.rd r).lane (twinOf l)).detector.run ≠ .run) :
    ∃ u y t, exec (.entryEvent r x0 x1 first) s = .next t ∧ TakesSample r l first x0 x1 s u ∧
      LeavesSample r l (detectLane r l (s.rd r).entered (laneSample l x0 x1) y u) t := by
  have hexec : exec (.entryEvent r x0 x1 first) s = .next (entryRunning r x0 x1 first s).arbitrate := by
    change Host.Outcome.next (entryEvent r x0 x1 first s).arbitrate = _
    unfold entryEvent
    rw [if_neg (by simp [hclock]), hstate]
  have hentered : ((enterStarted r x0 x1 s).rd r).entered - 1 = (s.rd r).entered :=
    congrArg (· - 1) (congrArg Reader.entered (enterStarted_yields r x0 x1 s).still : _ = (s.rd r).entered + 1)
  have hbehind : ∀ v, detectBoth r first (s.rd r).entered x0 x1 (enterStarted r x0 x1 s) = v →
      ∃ c0 c1, (entryRunning r x0 x1 first s).arbitrate =
        (monitorAtEntry r ((tableAtEntry r v).onReader r (processRunning c0 c1))).arbitrate := by
    rintro v rfl
    refine ⟨exitingCell (s.rd r).lane0.window, exitingCell (s.rd r).lane1.window, ?_⟩
    unfold entryRunning
    dsimp only
    rw [hentered]
  by_cases hl : first = l
  · subst hl
    have htakes := enterStarted_takes r first first x0 x1 s
    obtain ⟨c0, c1, hevent⟩ := hbehind _ (detectBoth_eq r first _ x0 x1 _)
    refine ⟨_, some (laneSample (twinOf first) x0 x1), _, hexec, htakes, ?_⟩
    rw [hevent]
    have hown := htakes.yields.work (detectLane_works r first (s.rd r).entered (laneSample first x0 x1)
      (some (laneSample (twinOf first) x0 x1)) _)
    have htwin := detectLane_works r (twinOf first) (s.rd r).entered (laneSample (twinOf first) x0 x1) none
      (detectLane r first (s.rd r).entered (laneSample first x0 x1) (some (laneSample (twinOf first) x0 x1)) (enterStarted r x0 x1 s))
    exact .behind_twin htwin (leaves_detectLane (twinOf_ne first) _ _ _ _) (afterDetectors_leaves hreleases (hown.work htwin) c0 c1)
  · obtain rfl : first = twinOf l := eq_twinOf_of_ne hl
    have htakes := twinStarted_takes (r := r) hl (hfirst.resolve_left hl) x0 x1 (s.rd r).entered (laneSample (twinOf l) x0 x1)
      (some (laneSample l x0 x1))
    obtain ⟨c0, c1, hevent⟩ := hbehind _ (by rw [detectBoth_eq, twinOf_twinOf])
    refine ⟨_, none, _, hexec, htakes, ?_⟩
    rw [hevent]
    exact afterDetectors_leaves hreleases (htakes.yields.work (detectLane_works r l _ _ none _)) c0 c1

end Sys2Proof.Machine
end

section
/-! What a lane's sample makes of its own run (R42 to R53, R56). -/

namespace Sys2Proof.Machine

/-! ## The entry of a run, found in the table -/

/-- A lane's run in a table: the one entry that stands for it. -/
theorem runs_eq_singleton {l : Lane} {t : List Defect} {y : Defect} :
    t.filter (isRunOf l) = [y] ↔ ∃ before after, t = before ++ y :: after ∧ isRunOf l y = true ∧
      ∀ d ∈ before ++ after, isRunOf l d = false := by
  rw [List.filter_eq_cons_iff]
  constructor
  · rintro ⟨before, after, rfl, hbefore, hy, hafter⟩
    refine ⟨before, after, rfl, hy, fun d hd => ?_⟩
    rcases List.mem_append.mp hd with hd | hd
    · simpa using hbefore d hd
    · simpa using List.filter_eq_nil_iff.mp hafter d hd
  · rintro ⟨before, after, rfl, hy, hothers⟩
    refine ⟨before, after, rfl, fun d hd => ?_, hy, List.filter_eq_nil_iff.mpr fun d hd => ?_⟩
    · simpa using hothers d (List.mem_append_left _ hd)
    · simpa using hothers d (List.mem_append_right _ hd)

theorem runs_eq_nil {l : Lane} {t : List Defect} : t.filter (isRunOf l) = [] ↔ ∀ d ∈ t, isRunOf l d = false := by
  simp [List.filter_eq_nil_iff]

theorem runs_fileDefect {l : Lane} {t : List Defect} {d : Defect} (ht : t.filter (isRunOf l) = []) (hd : isRunOf l d = true) :
    (fileDefect t d).filter (isRunOf l) = [d] := by
  refine runs_eq_singleton.mpr ⟨_, _, rfl, hd, fun y hy => ?_⟩
  rw [List.takeWhile_append_dropWhile] at hy
  exact runs_eq_nil.mp ht y hy

/-! ## The close of an overlong run (R51) -/

theorem State.detector_closeOverlong (r : ReaderId) (l : Lane) (s : State) :
    (closeOverlong r l s).detector r l = { (s.detector r l).idle with run := .catchup } := by
  have hcaught : (s.onReader r fun x => x.onLane l fun ln => { ln with detector := { ln.detector.idle with run := .catchup } }).detector r l =
      { (s.detector r l).idle with run := .catchup } :=
    (State.detector_onDetector s r l l fun d => { d.idle with run := .catchup }).trans (if_pos rfl)
  unfold closeOverlong
  dsimp only
  split
  · exact hcaught
  · exact ((State.detector_commitWatched r _ _ _ l).trans (State.detector_onReader (by cases l <;> rfl))).trans hcaught

/-- An overlong close commits its run's entry, Lmax + 1 long. -/
theorem closeOverlong_own {r : ReaderId} {l : Lane} {s : State} {y : Defect} (hruns : (s.rd r).table.filter (isRunOf l) = [y]) :
    ((closeOverlong r l s).rd r).table.filter (isRunOf l) = [] ∧
      ∃ z ∈ ((closeOverlong r l s).rd r).table, ({ y with spanEnd := y.spanStart + (s.rd r).active.lmax } : Defect).CommitsTo z := by
  obtain ⟨before, after, htable, hy, hothers⟩ := runs_eq_singleton.mp hruns
  have hindex : (s.rd r).table.findIdx (isRunOf l) = before.length := by
    rw [htable]
    exact findIdx_append_cons (fun d hd => hothers d (List.mem_append_left _ hd)) hy
  rcases closeOverlong_table r l s with ⟨hnone, _⟩ | ⟨d, d', hd, hd', htable'⟩
  · rw [hindex, htable, getElem?_append_cons] at hnone
    cases hnone
  · rw [hindex, htable, getElem?_append_cons] at hd
    obtain rfl := Option.some.inj hd
    rw [htable', hindex, htable, set_append_cons]
    refine ⟨runs_eq_nil.mpr fun x hx => ?_, d', List.mem_append_right _ List.mem_cons_self, hd'⟩
    rcases List.mem_append.mp hx with hx | hx
    · exact hothers x (List.mem_append_left _ hx)
    · rcases List.mem_cons.mp hx with rfl | hx
      · exact isRunOf_of_not_opened (by rw [hd'.state]; decide)
      · exact hothers x (List.mem_append_right _ hx)

theorem Reader.runTooLong_eq {rd : Reader} {l : Lane} {y : Defect} (hruns : rd.table.filter (isRunOf l) = [y]) :
    rd.runTooLong l = decide (rd.active.lmax < y.length) := by
  have hfind : rd.table.find? (isRunOf l) = some y := by rw [← List.head?_filter, hruns]; rfl
  unfold Reader.runTooLong
  rw [hfind]

/-! ## A run that has just been filed or grown -/

theorem State.active_onDetector (s : State) (r : ReaderId) (l : Lane) (f : Detector → Detector) :
    ((s.onDetector r l f).rd r).active = (s.rd r).active := by
  unfold State.onDetector
  rw [State.rd_onReader_self]
  cases l <;> rfl

/-- What becomes of a lane's run with the entry y: it stands with its record, or it closes overlong. -/
structure RunGrown (r : ReaderId) (l : Lane) (lmax : Nat) (d : Detector) (record : Option RunRecord) (y : Defect) (v : State) : Prop where
  stands : y.length ≤ lmax → v.detector r l = { d with run := .run, quiet := 0, record := record } ∧
    (v.rd r).table.filter (isRunOf l) = [y]
  overlong : lmax < y.length → v.detector r l = { d with run := .catchup, quiet := 0, record := none } ∧
    (v.rd r).table.filter (isRunOf l) = [] ∧ ∃ z ∈ (v.rd r).table, ({ y with spanEnd := y.spanStart + lmax } : Defect).CommitsTo z

theorem runGrown_of {r : ReaderId} {l : Lane} {s : State} {d : Detector} {record : Option RunRecord} {y : Defect} {lmax : Nat}
    (hlmax : (s.rd r).active.lmax = lmax) (hdetector : s.detector r l = { d with run := .run, quiet := 0, record := record })
    (hruns : (s.rd r).table.filter (isRunOf l) = [y]) :
    RunGrown r l lmax d record y (if (s.rd r).runTooLong l then closeOverlong r l s else s) := by
  subst hlmax
  rw [Reader.runTooLong_eq hruns]
  refine ⟨fun h => ?_, fun h => ?_⟩
  · rw [if_neg (by simpa using h)]
    exact ⟨hdetector, hruns⟩
  · rw [if_pos (by simpa using h), State.detector_closeOverlong, hdetector]
    exact ⟨rfl, closeOverlong_own hruns⟩

theorem openRun_own {r : ReaderId} {l : Lane} {s : State} (hruns : (s.rd r).table.filter (isRunOf l) = []) (e ratio : Nat)
    (twinOpens : Bool) :
    RunGrown r l (s.rd r).active.lmax (s.detector r l) (some { firstHot := e, lastHot := e }) ((s.rd r).openedEntry l e ratio)
      (openRun r l e ratio twinOpens s) := by
  obtain ⟨reached, hreached⟩ : ∃ reached : Defect → Bool, reached =
    fun d => d.lanes.has l && ((s.rd r).opensOverlong l e ratio || !d.complete (s.rd r).entered) := ⟨_, rfl⟩
  obtain ⟨along, halong⟩ : ∃ along : Defect → Bool, along =
    fun d => d.dueAtEntry (s.rd r).entered || (twinOpens && d.cutByRun (twinOf l) (s.rd r).entered) := ⟨_, rfl⟩
  have htouched := cutEntries_touched r reached along s fun d hd => closed_of_along (by rw [halong] at hd; exact hd)
  have hworks := cutEntries_works r reached along s
  have hactive : ((cutEntries r reached along s).rd r).active = (s.rd r).active := (congrArg (fun x => x.active) hworks.still :)
  have hentered : ((cutEntries r reached along s).rd r).entered = (s.rd r).entered := (congrArg Reader.entered hworks.still :)
  have hentry : ((cutEntries r reached along s).rd r).openedEntry l e ratio = (s.rd r).openedEntry l e ratio := by
    unfold Reader.openedEntry
    rw [openingStart_eq, tentativeEnd_eq, spansOn_of_touched htouched, hactive, hentered, ← openingStart_eq, ← tentativeEnd_eq]
  have hopened : ∀ v, v = ((cutEntries r reached along s).onReader r fun x =>
        { x with table := fileDefect x.table (x.openedEntry l e ratio) }).onDetector r l
          (fun d => { d with run := .run, quiet := 0, record := some { firstHot := e, lastHot := e } }) →
      RunGrown r l (s.rd r).active.lmax (s.detector r l) (some { firstHot := e, lastHot := e }) ((s.rd r).openedEntry l e ratio)
        (if (v.rd r).runTooLong l then closeOverlong r l v else v) := by
    rintro v rfl
    refine runGrown_of ?_ ?_ ?_
    · rw [State.active_onDetector, State.rd_onReader_self]
      exact congrArg ParamSet.lmax hactive
    · rw [State.detector_onDetector_self, State.detector_onReader (by cases l <;> rfl), State.detector_cutEntries]
    · rw [State.table_onDetector, State.rd_onReader_self]
      dsimp only
      rw [hentry]
      exact runs_fileDefect ((filter_runs_of_touched htouched).trans hruns) (isRunOf_iff.mpr ⟨rfl, rfl, rfl⟩)
  unfold openRun
  dsimp only
  rw [← hreached, ← halong]
  exact hopened _ rfl

theorem runs_growRun {rd : Reader} {l : Lane} {y : Defect} (hruns : rd.table.filter (isRunOf l) = [y]) (lastHot ratio : Nat) :
    (rd.growRun l lastHot ratio).table.filter (isRunOf l) =
      [{ y with spanEnd := tentativeEnd rd.table l lastHot rd.active.guard, peak := max y.peak ratio }] := by
  have hgrown : ∀ d, isRunOf l (if isRunOf l d then
      { d with spanEnd := tentativeEnd rd.table l lastHot rd.active.guard, peak := max d.peak ratio } else d) = isRunOf l d := fun d => by
    split <;> rfl
  obtain ⟨before, after, _, hy, _⟩ := runs_eq_singleton.mp hruns
  unfold Reader.growRun Reader.mapTable
  dsimp only
  rw [List.filter_map, show (isRunOf l ∘ fun d => if isRunOf l d then
      { d with spanEnd := tentativeEnd rd.table l lastHot rd.active.guard, peak := max d.peak ratio } else d) = isRunOf l from
      funext hgrown, hruns, List.map_singleton, if_pos hy]

theorem extendRun_own {r : ReaderId} {l : Lane} {s : State} {y : Defect} (hruns : (s.rd r).table.filter (isRunOf l) = [y])
    (hrun : (s.detector r l).run = .run) (e ratio : Nat) :
    RunGrown r l (s.rd r).active.lmax (s.detector r l) ((s.detector r l).record.map fun x => { x with lastHot := e })
      { y with spanEnd := tentativeEnd (s.rd r).table l e (s.rd r).active.guard, peak := max y.peak ratio }
      (extendRun r l e ratio s) := by
  have htable := State.table_onDetector s r l fun d => { d with quiet := 0, record := d.record.map fun x => { x with lastHot := e } }
  have hactive := State.active_onDetector s r l fun d => { d with quiet := 0, record := d.record.map fun x => { x with lastHot := e } }
  unfold extendRun
  dsimp only
  refine runGrown_of ?_ ?_ ?_
  · rw [State.rd_onReader_self]
    exact congrArg ParamSet.lmax hactive
  · rw [State.detector_onReader (congrArg LaneState.detector (Reader.lane_mapTable _ _ _ l)), State.detector_onDetector_self, ← hrun]
  · rw [State.rd_onReader_self, runs_growRun (htable ▸ hruns), htable, hactive]

/-! ## A run or a saturation that waits -/

/-- The close of a lane's run leaves no run of it. -/
theorem closeRun_own {r : ReaderId} {l : Lane} {s : State} {y : Defect} (hruns : (s.rd r).table.filter (isRunOf l) = [y])
    (finalEnd : Nat) :
    (closeRun r l finalEnd s).detector r l = (s.detector r l).idle ∧
      ((closeRun r l finalEnd s).rd r).table.filter (isRunOf l) = [] := by
  obtain ⟨before, after, htable, hy, hothers⟩ := runs_eq_singleton.mp hruns
  refine ⟨(State.detector_closeRun r l finalEnd s l).trans (if_pos rfl), ?_⟩
  have hclosed : ∀ c : Defect, c.state ≠ .opened → (before ++ c :: after).filter (isRunOf l) = [] := fun c hc =>
    runs_eq_nil.mpr fun x hx => by
      rcases List.mem_append.mp hx with hx | hx
      · exact hothers x (List.mem_append_left _ hx)
      · rcases List.mem_cons.mp hx with rfl | hx
        · exact isRunOf_of_not_opened hc
        · exact hothers x (List.mem_append_right _ hx)
  rw [closeRun_eq finalEnd htable hy hothers]
  split
  · rw [State.rd_closedTo, Reader.table_idleLane]
    refine (filter_fileDefect (isRunOf_of_not_opened (show EntryState.closed ≠ .opened by decide)) _).trans (runs_eq_nil.mpr fun x hx => ?_)
    exact hothers x (List.mem_filter.mp hx).1
  · have hkept : ∀ c : Defect, ((s.closedTo r l (before ++ c :: after)).rd r).table = before ++ c :: after := fun c => by
      rw [State.rd_closedTo, Reader.table_idleLane]
    split
    · obtain ⟨d', hd', htable'⟩ := commitWatched_table (r := r) (k := before.length) (d := { y with spanEnd := finalEnd, state := .closed })
        (s := s.closedTo r l (before ++ { y with spanEnd := finalEnd, state := .closed } :: after))
        (by rw [hkept, getElem?_append_cons]) false
      rw [htable', hkept, set_append_cons]
      exact hclosed d' (by rw [hd'.state]; decide)
    · rw [hkept]
      exact hclosed _ nofun

/-- A quiet sample of a run: it waits, or it closes at the merge gap plus one. -/
theorem quietSample_run {r : ReaderId} {l : Lane} {s : State} {y : Defect} (hruns : (s.rd r).table.filter (isRunOf l) = [y])
    (hrun : (s.detector r l).run = .run) :
    if (s.detector r l).quiet + 1 ≤ (s.rd r).active.mergeGap then
      (quietSample r l s).detector r l = { s.detector r l with quiet := (s.detector r l).quiet + 1 } ∧
        ((quietSample r l s).rd r).table.filter (isRunOf l) = [y]
    else
      (quietSample r l s).detector r l = (s.detector r l).idle ∧ ((quietSample r l s).rd r).table.filter (isRunOf l) = [] := by
  obtain ⟨v, hv⟩ : ∃ v, v = s.onDetector r l fun d => { d with quiet := d.quiet + 1 } := ⟨_, rfl⟩
  have hdetector : v.detector r l = { s.detector r l with quiet := (s.detector r l).quiet + 1 } :=
    hv ▸ State.detector_onDetector_self s r l _
  have hruns' : (v.rd r).table.filter (isRunOf l) = [y] := by rw [hv, State.table_onDetector, hruns]
  have hactive : (v.rd r).active = (s.rd r).active := by rw [hv, State.active_onDetector]
  have hdue : (v.rd r).closeDue l = decide ((s.rd r).active.mergeGap + 1 ≤ (s.detector r l).quiet + 1) := by
    unfold Reader.closeDue
    rw [show ((v.rd r).lane l).detector = _ from hdetector, hactive]
    dsimp only
    rw [hrun]
    rfl
  have hsaturation : (v.rd r).saturationDue l = false := by
    unfold Reader.saturationDue
    rw [show ((v.rd r).lane l).detector = _ from hdetector]
    dsimp only
    rw [hrun]
    rfl
  unfold quietSample
  dsimp only
  rw [← hv, hdue, hsaturation]
  by_cases hgap : (s.detector r l).quiet + 1 ≤ (s.rd r).active.mergeGap
  · rw [if_pos hgap, if_neg (by simpa using hgap), if_neg Bool.false_ne_true]
    exact ⟨hdetector, hruns'⟩
  · rw [if_neg hgap, if_pos (by simpa using hgap)]
    obtain ⟨hidle, hnone⟩ := closeRun_own hruns' ((v.rd r).finalEnd l ((v.rd r).entered - 1))
    refine ⟨hidle.trans ?_, hnone⟩
    rw [hdetector]
    rfl

/-- A quiet sample of a saturated lane: it waits, or the saturation ends at the merge gap plus one. -/
theorem quietSample_saturated {r : ReaderId} {l : Lane} {s : State} (hrun : (s.detector r l).run = .saturated) :
    (quietSample r l s).detector r l =
      if (s.detector r l).quiet + 1 ≤ (s.rd r).active.mergeGap then { s.detector r l with quiet := (s.detector r l).quiet + 1 }
      else (s.detector r l).idle := by
  obtain ⟨v, hv⟩ : ∃ v, v = s.onDetector r l fun d => { d with quiet := d.quiet + 1 } := ⟨_, rfl⟩
  have hdetector : v.detector r l = { s.detector r l with quiet := (s.detector r l).quiet + 1 } :=
    hv ▸ State.detector_onDetector_self s r l _
  have hactive : (v.rd r).active = (s.rd r).active := by rw [hv, State.active_onDetector]
  have hdue : (v.rd r).closeDue l = false := by
    unfold Reader.closeDue
    rw [show ((v.rd r).lane l).detector = _ from hdetector]
    dsimp only
    rw [hrun]
    rfl
  have hsaturation : (v.rd r).saturationDue l = decide ((s.rd r).active.mergeGap + 1 ≤ (s.detector r l).quiet + 1) := by
    unfold Reader.saturationDue
    rw [show ((v.rd r).lane l).detector = _ from hdetector, hactive]
    dsimp only
    rw [hrun]
    rfl
  unfold quietSample
  dsimp only
  rw [← hv, hdue, hsaturation, if_neg Bool.false_ne_true]
  by_cases hgap : (s.detector r l).quiet + 1 ≤ (s.rd r).active.mergeGap
  · rw [if_pos hgap, if_neg (by simpa using hgap)]
    exact hdetector
  · rw [if_neg hgap, if_pos (by simpa using hgap)]
    refine (State.detector_onDetector_self v r l _).trans ?_
    rw [hdetector]
    rfl

end Sys2Proof.Machine
end

section
/-! The sample of a lane at an entry event (R41 to R46, R56): what it is judged by, and what becomes of it. -/

namespace Sys2Proof.Machine

/-! ## The sample of a lane -/

/-- The envelope behind a sample: suspended samples leave it, and so do hot ones but in CATCHUP (R43, R56). -/
def Detector.envelopeBehind (d : Detector) (p : ParamSet) (stuck : Bool) (x : Sample) : Nat :=
  if stuck then d.envelope
  else if updatesEnvelope d.run (isHot p.threshold d.envelope (d.difference x)) then
    envelopeAfter p.envelopeRate d.envelope (d.difference x)
  else d.envelope

/-- The detector behind its envelope, its run as it stood. -/
def Detector.measured (d : Detector) (p : ParamSet) (stuck : Bool) (x : Sample) : Detector :=
  { d with envelope := d.envelopeBehind p stuck x }

/-- What a sample does with a run, the envelope being moved: a suspended one acts as one that is not hot (R46, R56). -/
def treatRun (r : ReaderId) (l : Lane) (e : Nat) (stuck hot covered : Bool) (ratio : Nat) (twinOpens : Bool) (s : State) : State :=
  if stuck then suspendedSample r l s else actOnRun r l e hot covered ratio twinOpens s

/-- A sample that is judged and found hot (R41, R42). -/
def Detector.hot (d : Detector) (p : ParamSet) (stuck : Bool) (x : Sample) : Bool :=
  !stuck && isHot p.threshold d.envelope (d.difference x)

theorem Detector.hot_iff (d : Detector) (p : ParamSet) (stuck : Bool) (x : Sample) :
    d.hot p stuck x = true ↔ stuck = false ∧ p.threshold * max d.envelope 16 < d.difference x * 16 := by
  simp [Detector.hot, isHot]

theorem Detector.envelopeBehind_of_not_catchup {d : Detector} (h : d.run ≠ .catchup) (p : ParamSet) (stuck : Bool) (x : Sample) :
    d.envelopeBehind p stuck x =
      if stuck = false ∧ d.hot p stuck x = false then envelopeAfter p.envelopeRate d.envelope (d.difference x) else d.envelope := by
  have hupdates : ∀ hot, updatesEnvelope d.run hot = !hot := fun hot => by
    unfold updatesEnvelope
    split
    · contradiction
    all_goals rfl
  unfold Detector.envelopeBehind Detector.hot
  rw [hupdates]
  cases stuck <;> simp

theorem Detector.envelopeBehind_of_catchup {d : Detector} (h : d.run = .catchup) (p : ParamSet) (stuck : Bool) (x : Sample) :
    d.envelopeBehind p stuck x =
      if stuck = false then envelopeAfter p.envelopeRate d.envelope (d.difference x) else d.envelope := by
  unfold Detector.envelopeBehind updatesEnvelope
  rw [h]
  cases stuck <;> rfl

/-! ## What a sample does in each run state (R46) -/

section
variable {r : ReaderId} {l : Lane} {s : State} (e : Nat) (stuck hot covered : Bool) (ratio : Nat) (twinOpens : Bool)

theorem treatRun_idle (h : (s.detector r l).run = .idle) :
    treatRun r l e stuck hot covered ratio twinOpens s =
      if (!stuck && hot) && !covered then
        if (s.rd r).table.length < 32 then openRun r l e ratio twinOpens s else saturate r l s
      else s := by
  unfold treatRun suspendedSample actOnRun
  rw [h]
  cases stuck <;> rfl

theorem treatRun_run (h : (s.detector r l).run = .run) :
    treatRun r l e stuck hot covered ratio twinOpens s =
      if (!stuck && hot) && !covered then extendRun r l e ratio s else quietSample r l s := by
  unfold treatRun suspendedSample actOnRun
  rw [h]
  cases stuck <;> rfl

theorem treatRun_catchup (h : (s.detector r l).run = .catchup) :
    treatRun r l e stuck hot covered ratio twinOpens s = if !stuck && hot then s else endSaturation r l s := by
  unfold treatRun suspendedSample actOnRun
  rw [h]
  cases stuck <;> rfl

theorem treatRun_saturated (h : (s.detector r l).run = .saturated) :
    treatRun r l e stuck hot covered ratio twinOpens s =
      if (!stuck && hot) && !covered then s.onDetector r l fun d => { d with quiet := 0 } else quietSample r l s := by
  unfold treatRun suspendedSample actOnRun
  rw [h]
  cases stuck <;> rfl

end

/-- The state in which a sample meets its run, and the one it leaves. -/
structure Treats (r : ReaderId) (l : Lane) (e : Nat) (x : Sample) (u m w v : State) : Prop where
  moved : Works r u m
  table : (m.rd r).table = (u.rd r).table
  detector : m.detector r l = (u.detector r l).measured (u.rd r).active ((u.rd r).lane l).stuck x
  treated : ∃ twinOpens, w = treatRun r l e ((u.rd r).lane l).stuck
    (isHot (u.rd r).active.threshold (u.detector r l).envelope ((u.detector r l).difference x)) ((u.rd r).covered l e)
    (peakRatio (u.detector r l).envelope ((u.detector r l).difference x)) twinOpens m
  works : Works r w v
  shifted : v.detector r l = (w.detector r l).shift x
  left : (v.rd r).table = (w.rd r).table

theorem detectLane_treats {r : ReaderId} {l : Lane} {u : State} (henabled : (u.rd r).active.detectorEnable = true)
    (hhistory : 2 ≤ (u.detector r l).history) (e : Nat) (x : Sample) (y : Option Sample) :
    ∃ m w, Treats r l e x u m w (detectLane r l e x y u) := by
  have hshift : ∀ w : State, Works r w (w.onDetector r l (·.shift x)).evaluateWatches ∧
      (w.onDetector r l (·.shift x)).evaluateWatches.detector r l = (w.detector r l).shift x ∧
      ((w.onDetector r l (·.shift x)).evaluateWatches.rd r).table = (w.rd r).table := by
    intro w
    have hsettles := moving_of_calm ((w.onDetector r l (·.shift x)).evaluateWatches_settles.1.calm r)
    exact ⟨(works_onDetector w r l _ id).watches, (Moving.detector_eq hsettles l).trans (State.detector_onDetector_self w r l _),
      (congrArg Moving.table hsettles).trans (State.table_onDetector w r l _)⟩
  have hprimed : (!(u.rd r).active.detectorEnable || decide ((u.detector r l).history < 2)) = false := by
    rw [henabled, decide_eq_false (Nat.not_lt.mpr hhistory)]
    rfl
  unfold detectLane
  dsimp only
  rw [hprimed, if_neg Bool.false_ne_true]
  cases hstuck : ((u.rd r).lane l).stuck with
  | true =>
    obtain ⟨hworks, hdetector, htable⟩ := hshift (suspendedSample r l u)
    rw [if_pos rfl]
    refine ⟨u, _, Works.refl r u, rfl, ?_, ⟨false, ?_⟩, hworks, hdetector, htable⟩
    · rw [hstuck]
      rfl
    · rw [hstuck]
      rfl
  | false =>
    rw [if_neg Bool.false_ne_true]
    unfold judgeSample
    dsimp only
    generalize hmag : (u.detector r l).difference x = mag
    generalize hhot : isHot (u.rd r).active.threshold (u.detector r l).envelope mag = hot
    obtain ⟨m, hm⟩ : ∃ m, m = if updatesEnvelope (u.detector r l).run hot then
      u.onDetector r l fun d => { d with envelope := envelopeAfter (u.rd r).active.envelopeRate d.envelope mag } else u := ⟨_, rfl⟩
    rw [← hm]
    obtain ⟨twinOpens, htwinOpens⟩ : ∃ b, b = y.any fun y => (u.rd r).opensRun (twinOf l) e y ((u.rd r).table.length + 1) := ⟨_, rfl⟩
    rw [← htwinOpens]
    obtain ⟨hworks, hdetector, htable⟩ := hshift (actOnRun r l e hot ((u.rd r).covered l e)
      (peakRatio (u.detector r l).envelope mag) twinOpens m)
    refine ⟨m, actOnRun r l e hot ((u.rd r).covered l e) (peakRatio (u.detector r l).envelope mag) twinOpens m,
      ?_, ?_, ?_, ⟨twinOpens, ?_⟩, hworks, hdetector, htable⟩
    · rw [hm, ← hmag]
      split
      · refine works_onDetector u r l _ fun hd => ?_
        obtain ⟨hlow, hhigh, hhistory', hrun⟩ := hd
        obtain ⟨hlow', hhigh'⟩ := envelopeAfter_bounds (u.rd r).active.envelopeRate hlow hhigh (Detector.difference_le _ x)
        exact ⟨hlow', hhigh', hhistory', hrun⟩
      · exact Works.refl r u
    · rw [hm]
      split
      · exact State.table_onDetector u r l _
      · rfl
    · unfold Detector.measured Detector.envelopeBehind
      rw [hstuck, hmag, hhot, hm, if_neg Bool.false_ne_true]
      split
      · exact State.detector_onDetector_self u r l _
      · rfl
    · rw [hstuck, hmag, hhot]
      rfl

/-- An entry event about a lane's sample: the state m in which it meets its run, w which it leaves, and t behind the event. -/
structure LaneSampled (r : ReaderId) (l first : Lane) (x : Sample) (s m w t : State) : Prop where
  acts : Acts (s.rd r) (m.rd r)
  grows : s.queue.bodies <+: m.queue.bodies
  active : (m.rd r).active = (s.rd r).active
  entered : (m.rd r).entered = (s.rd r).entered + 1
  runs : (m.rd r).table.filter (isRunOf l) = (s.rd r).keptTable.filter (isRunOf l)
  keeps : KeepsSpans l (s.rd r).keptTable (m.rd r).table
  firstTaken : first = l → (m.rd r).table.length = (s.rd r).keptTable.length
  detector : m.detector r l = (s.detector r l).measured (s.rd r).active ((t.rd r).lane l).stuck x
  treated : ∃ twinOpens, w = treatRun r l (s.rd r).entered ((t.rd r).lane l).stuck
    (isHot (s.rd r).active.threshold (s.detector r l).envelope ((s.detector r l).difference x))
    ((m.rd r).covered l (s.rd r).entered) (peakRatio (s.detector r l).envelope ((s.detector r l).difference x)) twinOpens m
  behind : ∃ x, Yields r w t x
  run : (∀ d ∈ (w.rd r).table, isRunOf l d = true → (s.rd r).entered + 1 ≤ d.spanStart + 1023) →
    t.detector r l = (w.detector r l).shift x ∧ Aside l (w.rd r).table (t.rd r).table

theorem exec_lane_sample {r : ReaderId} {s : State} (x0 x1 : Sample) {l first : Lane} (hclock : (s.rd r).clockLost = false)
    (hstate : (s.rd r).state = .running) (hreleases : (s.rd r).params.releases = false)
    (henabled : (s.rd r).active.detectorEnable = true) (hhistory : 2 ≤ (s.detector r l).history)
    (hfirst : first = l ∨ ((s.rd r).lane (twinOf l)).detector.run ≠ .run) :
    ∃ m w t, exec (.entryEvent r x0 x1 first) s = .next t ∧ LaneSampled r l first (laneSample l x0 x1) s m w t := by
  obtain ⟨u, y, t, ht, htakes, hleaves⟩ := exec_entry_detect x0 x1 hclock hstate hreleases hfirst
  have hactive : (u.rd r).active = (s.rd r).active := (congrArg (fun rd => rd.active) htakes.yields.still :)
  have hentered : (u.rd r).entered = (s.rd r).entered + 1 := (congrArg Reader.entered htakes.yields.still :)
  obtain ⟨m, w, htreats⟩ := detectLane_treats (r := r) (l := l) (u := u) (hactive ▸ henabled) (htakes.detector ▸ hhistory)
    (s.rd r).entered (laneSample l x0 x1) y
  have hstuck : ((u.rd r).lane l).stuck = ((t.rd r).lane l).stuck := by
    obtain ⟨t', ht', hlane⟩ := exec_entry_lane x0 x1 first hclock (.inl hstate)
    obtain rfl := Host.Outcome.next.inj (ht'.symm.trans ht)
    have hu : ((u.rd r).lane l).stuck = (((s.rd r).sampled x0 x1).lane l).stuck := by
      cases l
      · exact (congrArg (fun rd => rd.lane0.stuck) htakes.yields.still :)
      · exact (congrArg (fun rd => rd.lane1.stuck) htakes.yields.still :)
    exact hu.trans (congrArg LaneState.stuck (hlane l) :).symm
  obtain ⟨z, hz⟩ := hleaves.works
  have hbefore : Yields r s m ((s.rd r).sampled x0 x1) := htakes.yields.work htreats.moved
  have hbehind : Yields r w t z := ⟨hz.still, .trans htreats.works.acts hz.acts, htreats.works.grows.trans hz.grows,
    .trans htreats.works.grows hz.grows htreats.works.tells hz.tells⟩
  refine ⟨m, w, t, ht, hbefore.acts, hbefore.grows, ?_, ?_, ?_, ?_, ?_, ?_, ?_, ⟨z, hbehind⟩, fun h => ?_⟩
  · exact (congrArg (fun rd => rd.active) hbefore.still :)
  · exact (congrArg Reader.entered hbefore.still :)
  · rw [htreats.table, htakes.runs]
  · rw [htreats.table]
    exact htakes.keeps
  · rw [htreats.table]
    exact htakes.firstTaken
  · rw [htreats.detector, htakes.detector, hactive, hstuck]
  · obtain ⟨twinOpens, hw⟩ := htreats.treated
    refine ⟨twinOpens, hw.trans ?_⟩
    rw [htakes.detector, hactive, hstuck]
    unfold Reader.covered
    rw [htreats.table]
  · have hv : ((detectLane r l (s.rd r).entered (laneSample l x0 x1) y u).rd r).entered = (s.rd r).entered + 1 :=
      (congrArg Reader.entered (htakes.yields.work (detectLane_works r l _ _ _ _)).still :)
    have hrun := hleaves.run fun d hd hd' => by
      rw [hv]
      exact h d (htreats.left ▸ hd) hd'
    exact ⟨hrun.detector.trans htreats.shifted, htreats.left ▸ hrun.aside⟩

end Sys2Proof.Machine
end

section
/-! The sample of a lane in each run state, as the reader stands behind the entry event (R42 to R53, R56). -/

open Relation (ReflTransGen)

namespace Sys2Proof.Machine

/-! ## The detector behind the entry event -/

/-- A lane's detector behind its sample, with what its run has become. -/
def Detector.taken (d : Detector) (p : ParamSet) (stuck : Bool) (x : Sample) (state : RunState) (quiet : Nat) (record : Option RunRecord) :
    Detector :=
  { prev1 := x, prev2 := d.prev1, history := d.history, envelope := d.envelopeBehind p stuck x, run := state, quiet := quiet
    record := record }

theorem Reader.runs_keptTable (rd : Reader) (l : Lane) : rd.keptTable.filter (isRunOf l) = rd.table.filter (isRunOf l) := by
  unfold Reader.keptTable
  rw [List.filter_filter]
  refine List.filter_congr fun d _ => ?_
  cases hrun : isRunOf l d with
  | false => rfl
  | true =>
    rw [beq_eq_false_iff_ne.mpr (isRunOf_state hrun)]
    rfl

/-- The entry that a run files which opens at the index that enters, in the table that the detectors find (R47, R67). -/
def Reader.openingEntry (rd : Reader) (l : Lane) (ratio : Nat) : Defect :=
  ({ rd with table := rd.keptTable, entered := rd.entered + 1 } : Reader).openedEntry l rd.entered ratio

theorem covered_iff {rd : Reader} {l : Lane} {e : Nat} :
    rd.covered l e = true ↔ ∃ y ∈ rd.table, isRunOf l y = false ∧ y.lanes.has l = true ∧ y.spanStart ≤ e ∧ e ≤ y.spanEnd := by
  unfold Reader.covered Defect.shares
  simp only [List.any_eq_true, Bool.and_eq_true, decide_eq_true_eq, Bool.not_eq_true']
  exact exists_congr fun y => and_congr_right fun _ => ⟨fun ⟨⟨h, hs⟩, hr⟩ => ⟨hr, h, hs⟩, fun ⟨hr, h, hs⟩ => ⟨⟨h, hs⟩, hr⟩⟩

theorem le_openingStart (t : List Defect) (l : Lane) (e guard n : Nat) : e - guard ≤ openingStart t l e guard n := by
  have hfold : ∀ x, x ≤ t.foldl (fun x d => if d.lanes.has l && d.spanEnd < e then max x d.after else x) x := by
    induction t with
    | nil => exact fun x => le_rfl
    | cons d t ih =>
      intro x
      refine le_trans ?_ (ih _)
      dsimp only
      split
      · exact le_max_left _ _
      · exact le_rfl
  exact (le_max_left _ _).trans (hfold _)

/-- What is counted as unrecorded is not lost, up to its limit. -/
theorem Acts.min_unrecorded_le {a b : Reader} (h : Acts a b) : min a.unrecorded 65535 ≤ b.unrecorded := by
  have hcount : ∀ x : Reader, min a.unrecorded 65535 ≤ x.unrecorded → min a.unrecorded 65535 ≤ x.countUnrecorded.unrecorded :=
    fun x hx => Nat.le_min.mpr ⟨hx.trans (Nat.le_succ _), Nat.min_le_right _ _⟩
  induction h with
  | refl => exact Nat.min_le_left _ _
  | @tail x y _ hact ih =>
    rcases hact with hact | hmoving
    · cases hact with
      | record | missed | table => exact ih
      | refuse | count => exact hcount x ih
      | detector l f => cases l <;> exact ih
    · rwa [show y.unrecorded = x.unrecorded from congrArg Moving.unrecorded hmoving]

section
variable {r : ReaderId} {l first : Lane} {x : Sample} {s m w t : State} (h : LaneSampled r l first x s m w t)
include h

namespace LaneSampled

theorem run_eq : (m.detector r l).run = (s.detector r l).run := (congrArg Detector.run h.detector :)

theorem covered : (m.rd r).covered l (s.rd r).entered = true ↔ ∃ y ∈ (s.rd r).keptTable, isRunOf l y = false ∧ y.lanes.has l = true ∧
    y.spanStart ≤ (s.rd r).entered ∧ (s.rd r).entered ≤ y.spanEnd := by
  have hkept : (m.rd r).covered l (s.rd r).entered = ({ s.rd r with table := (s.rd r).keptTable } : Reader).covered l (s.rd r).entered := by
    rw [covered_eq, covered_eq, h.keeps.spans]
  rw [hkept, covered_iff]

/-- Where the lane's runs are not at their deadline, its detector and its runs' entries stand as its sample left them. -/
theorem stands {state : RunState} {quiet : Nat} {record : Option RunRecord}
    (hruns : ∀ y ∈ (w.rd r).table.filter (isRunOf l), (s.rd r).entered < y.spanStart + 1023)
    (hw : w.detector r l = { m.detector r l with run := state, quiet := quiet, record := record }) :
    t.detector r l = (s.detector r l).taken (s.rd r).active ((t.rd r).lane l).stuck x state quiet record ∧
      Aside l (w.rd r).table (t.rd r).table := by
  obtain ⟨hdetector, haside⟩ := h.run fun d hd hrun => hruns d (List.mem_filter.mpr ⟨hd, hrun⟩)
  refine ⟨?_, haside⟩
  rw [hdetector, hw, h.detector]
  rfl

/-- The same of a lane that is left without a run. -/
theorem stands_of_no_run {state : RunState} {quiet : Nat} {record : Option RunRecord} (hruns : (w.rd r).table.filter (isRunOf l) = [])
    (hw : w.detector r l = { m.detector r l with run := state, quiet := quiet, record := record }) :
    t.detector r l = (s.detector r l).taken (s.rd r).active ((t.rd r).lane l).stuck x state quiet record ∧
      Aside l (w.rd r).table (t.rd r).table :=
  h.stands (by rw [hruns]; exact fun _ hy => nomatch hy) hw

/-- What the reader shows of a run that has been filed or grown. -/
theorem grown {record : Option RunRecord} {y : Defect} (hgrown : RunGrown r l (s.rd r).active.lmax (m.detector r l) record y w)
    (hrun : isRunOf l y = true) (hdeadline : (s.rd r).entered < y.spanStart + 1023) :
    if y.length ≤ (s.rd r).active.lmax then
      t.detector r l = (s.detector r l).taken (s.rd r).active ((t.rd r).lane l).stuck x .run 0 record ∧ y ∈ (t.rd r).table
    else
      t.detector r l = (s.detector r l).taken (s.rd r).active ((t.rd r).lane l).stuck x .catchup 0 none ∧
        ∃ z ∈ (t.rd r).table, ({ y with spanEnd := y.spanStart + (s.rd r).active.lmax } : Defect).CommitsTo z := by
  split
  next hlength =>
    obtain ⟨hdetector, hruns⟩ := hgrown.stands hlength
    obtain ⟨hstands, haside⟩ := h.stands (by rw [hruns]; exact fun z hz => List.mem_singleton.mp hz ▸ hdeadline) hdetector
    refine ⟨hstands, (haside.mem_run hrun).mpr (List.mem_of_mem_filter (p := isRunOf l) ?_)⟩
    rw [hruns]
    exact List.mem_cons_self
  next hlength =>
    obtain ⟨hdetector, hruns, z, hz, hcommits⟩ := hgrown.overlong (Nat.not_le.mp hlength)
    obtain ⟨hstands, haside⟩ := h.stands_of_no_run hruns hdetector
    exact ⟨hstands, z, haside.committed z hz hcommits.state, hcommits⟩

theorem spanEnd_eq : tentativeEnd (m.rd r).table l (s.rd r).entered (m.rd r).active.guard =
    tentativeEnd (s.rd r).keptTable l (s.rd r).entered (s.rd r).active.guard := by
  rw [tentativeEnd_eq, tentativeEnd_eq, h.keeps.spans, h.active]

/-! ## IDLE -/

section
variable (hidle : (s.detector r l).run = .idle) (hnone : (s.rd r).table.filter (isRunOf l) = [])
include hidle hnone

/-- A sample that opens nothing leaves the detector in IDLE. -/
theorem idle_quiet (hquiet : ((s.detector r l).hot (s.rd r).active ((t.rd r).lane l).stuck x && !(m.rd r).covered l (s.rd r).entered) = false) :
    t.detector r l = (s.detector r l).taken (s.rd r).active ((t.rd r).lane l).stuck x .idle (s.detector r l).quiet (s.detector r l).record := by
  obtain ⟨twinOpens, hw⟩ := h.treated
  have hleft : w = m := hw.trans ((treatRun_idle _ _ _ _ _ _ (h.run_eq.trans hidle)).trans (if_neg (Bool.eq_false_iff.mp hquiet)))
  refine (h.stands_of_no_run ?_ ?_).1
  · rw [hleft, h.runs, Reader.runs_keptTable, hnone]
  · rw [hleft, h.detector, ← hidle]
    rfl

section
variable (hhot : ((s.detector r l).hot (s.rd r).active ((t.rd r).lane l).stuck x && !(m.rd r).covered l (s.rd r).entered) = true)
include hhot

/-- A hot sample saturates the lane where the table is full, and counts as unrecorded (R48, R80, R81). -/
theorem idle_full (hfull : 32 ≤ (m.rd r).table.length) :
    t.detector r l = (s.detector r l).taken (s.rd r).active ((t.rd r).lane l).stuck x .saturated 0 (s.detector r l).record ∧
      min ((s.rd r).unrecorded + 1) 65535 ≤ (t.rd r).unrecorded ∧
      ((t.rd r).gap = true ∨ ∃ f : DfctFields, f.gapBefore = true ∧
        (r, ReportBody.dfct f) ∈ t.queue.bodies.drop s.queue.bodies.length) := by
  obtain ⟨twinOpens, hw⟩ := h.treated
  have hleft : w = saturate r l m := hw.trans ((treatRun_idle _ _ _ _ _ _ (h.run_eq.trans hidle)).trans
    ((if_pos hhot).trans (if_neg (Nat.not_lt.mpr hfull))))
  obtain ⟨z, hbehind⟩ := h.behind
  have hcounted : ((saturate r l m).rd r).unrecorded = min ((m.rd r).unrecorded + 1) 65535 ∧ ((saturate r l m).rd r).gap = true := by
    unfold saturate State.onDetector
    rw [State.rd_onReader_self, State.rd_onReader_self]
    cases l <;> exact ⟨rfl, rfl⟩
  have hqueue : w.queue = m.queue := by
    rw [hleft]
    unfold saturate State.onDetector
    rw [State.onReader_queue, State.onReader_queue]
  refine ⟨(h.stands_of_no_run ?_ ?_).1, ?_, ?_⟩
  · rw [hleft]
    unfold saturate
    rw [State.table_onDetector, State.rd_onReader_self]
    exact h.runs.trans ((Reader.runs_keptTable _ _).trans hnone)
  · rw [hleft]
    unfold saturate
    rw [State.detector_onDetector_self, State.detector_onReader (by cases l <;> rfl), h.detector]
    rfl
  · have hbefore := h.acts.min_unrecorded_le
    have hafter := Acts.min_unrecorded_le hbehind.acts
    rw [hleft, hcounted.1] at hafter
    omega
  · refine (hbehind.tells (hleft ▸ hcounted.2)).imp_right fun ⟨f, hgap, hmem⟩ => ⟨f, hgap, ?_⟩
    rw [hqueue] at hmem
    exact List.drop_subset_drop_left _ h.grows.length_le hmem

/-- A hot sample opens a run where the table has a place, and the run closes at once where its span is above Lmax. -/
theorem idle_opens (hguard : (s.rd r).active.guard ≤ 16) (hroom : (m.rd r).table.length < 32) {y : Defect}
    (hy : y = (s.rd r).openingEntry l (peakRatio (s.detector r l).envelope ((s.detector r l).difference x))) :
    if y.length ≤ (s.rd r).active.lmax then
      t.detector r l = (s.detector r l).taken (s.rd r).active ((t.rd r).lane l).stuck x .run 0
        (some { firstHot := (s.rd r).entered, lastHot := (s.rd r).entered }) ∧ y ∈ (t.rd r).table
    else
      t.detector r l = (s.detector r l).taken (s.rd r).active ((t.rd r).lane l).stuck x .catchup 0 none ∧
        ∃ z ∈ (t.rd r).table, ({ y with spanEnd := y.spanStart + (s.rd r).active.lmax } : Defect).CommitsTo z := by
  obtain ⟨twinOpens, hw⟩ := h.treated
  have hleft := hw.trans ((treatRun_idle _ _ _ _ _ _ (h.run_eq.trans hidle)).trans ((if_pos hhot).trans (if_pos hroom)))
  have hown := openRun_own (h.runs.trans ((Reader.runs_keptTable _ _).trans hnone)) (s.rd r).entered
    (peakRatio (s.detector r l).envelope ((s.detector r l).difference x)) twinOpens
  rw [← hleft, h.active] at hown
  have hentry : (m.rd r).openedEntry l (s.rd r).entered (peakRatio (s.detector r l).envelope ((s.detector r l).difference x)) = y := by
    rw [hy]
    unfold Reader.openingEntry Reader.openedEntry
    rw [h.spanEnd_eq, openingStart_eq, h.keeps.spans, h.active, h.entered, ← openingStart_eq]
    rfl
  rw [hentry] at hown
  refine h.grown hown (by rw [hy]; exact isRunOf_iff.mpr ⟨rfl, rfl, rfl⟩) ?_
  have hstart : (s.rd r).entered - (s.rd r).active.guard ≤ y.spanStart := by
    rw [hy]
    exact le_openingStart _ _ _ _ _
  omega

end

end

/-! ## CATCHUP and SATURATED -/

section
variable (hnone : (s.rd r).table.filter (isRunOf l) = [])
include hnone

theorem catchup (hrun : (s.detector r l).run = .catchup) :
    t.detector r l =
      if (s.detector r l).hot (s.rd r).active ((t.rd r).lane l).stuck x then
        (s.detector r l).taken (s.rd r).active ((t.rd r).lane l).stuck x .catchup (s.detector r l).quiet (s.detector r l).record
      else (s.detector r l).taken (s.rd r).active ((t.rd r).lane l).stuck x .idle 0 none := by
  obtain ⟨twinOpens, hw⟩ := h.treated
  have hleft := hw.trans (treatRun_catchup _ _ _ _ _ _ (h.run_eq.trans hrun))
  have hruns : (m.rd r).table.filter (isRunOf l) = [] := h.runs.trans ((Reader.runs_keptTable _ _).trans hnone)
  split
  next hhot =>
    rw [show w = m from hleft.trans (if_pos hhot)] at h
    refine (h.stands_of_no_run hruns ?_).1
    rw [h.detector, ← hrun]
    rfl
  next hhot =>
    rw [show w = endSaturation r l m from hleft.trans (if_neg hhot)] at h
    refine (h.stands_of_no_run ?_ ?_).1
    · unfold endSaturation
      rw [State.table_onDetector, hruns]
    · exact State.detector_onDetector_self _ _ _ _

theorem saturated (hrun : (s.detector r l).run = .saturated) :
    t.detector r l =
      if (s.detector r l).hot (s.rd r).active ((t.rd r).lane l).stuck x && !(m.rd r).covered l (s.rd r).entered then
        (s.detector r l).taken (s.rd r).active ((t.rd r).lane l).stuck x .saturated 0 (s.detector r l).record
      else if (s.detector r l).quiet + 1 ≤ (s.rd r).active.mergeGap then
        (s.detector r l).taken (s.rd r).active ((t.rd r).lane l).stuck x .saturated ((s.detector r l).quiet + 1) (s.detector r l).record
      else (s.detector r l).taken (s.rd r).active ((t.rd r).lane l).stuck x .idle 0 none := by
  obtain ⟨twinOpens, hw⟩ := h.treated
  have hm : (m.detector r l).run = .saturated := h.run_eq.trans hrun
  have hleft := hw.trans (treatRun_saturated _ _ _ _ _ _ hm)
  have hruns : (m.rd r).table.filter (isRunOf l) = [] := h.runs.trans ((Reader.runs_keptTable _ _).trans hnone)
  split
  next hhot =>
    rw [hleft.trans (if_pos hhot)] at h
    refine (h.stands_of_no_run ?_ ?_).1
    · rw [State.table_onDetector, hruns]
    · rw [State.detector_onDetector_self, h.detector, ← hrun]
      rfl
  next hhot =>
    rw [hleft.trans (if_neg hhot)] at h
    have hquiet := quietSample_saturated hm
    have htable : ((quietSample r l m).rd r).table.filter (isRunOf l) = [] := by
      rw [quietSample_table (by rw [hm]; decide), hruns]
    have hcount : (m.detector r l).quiet = (s.detector r l).quiet := (congrArg Detector.quiet h.detector :)
    rw [h.active, hcount] at hquiet
    split
    next hgap =>
      refine (h.stands_of_no_run htable ?_).1
      rw [hquiet, if_pos hgap, h.detector, ← hrun]
      rfl
    next hgap => exact (h.stands_of_no_run htable (hquiet.trans (if_neg hgap))).1

end

/-! ## RUN -/

section
variable {y : Defect} (hrun : (s.detector r l).run = .run) (hone : (s.rd r).table.filter (isRunOf l) = [y])
  (hdeadline : (s.rd r).entered < y.spanStart + 1023)
include hrun hone hdeadline

theorem run_extends
    (hhot : ((s.detector r l).hot (s.rd r).active ((t.rd r).lane l).stuck x && !(m.rd r).covered l (s.rd r).entered) = true) :
    let y' : Defect :=
      { y with
        spanEnd := tentativeEnd (s.rd r).keptTable l (s.rd r).entered (s.rd r).active.guard
        peak := max y.peak (peakRatio (s.detector r l).envelope ((s.detector r l).difference x)) }
    if y'.length ≤ (s.rd r).active.lmax then
      t.detector r l = (s.detector r l).taken (s.rd r).active ((t.rd r).lane l).stuck x .run 0
        ((s.detector r l).record.map fun x => { x with lastHot := (s.rd r).entered }) ∧ y' ∈ (t.rd r).table
    else
      t.detector r l = (s.detector r l).taken (s.rd r).active ((t.rd r).lane l).stuck x .catchup 0 none ∧
        ∃ z ∈ (t.rd r).table, ({ y' with spanEnd := y'.spanStart + (s.rd r).active.lmax } : Defect).CommitsTo z := by
  obtain ⟨twinOpens, hw⟩ := h.treated
  have hm : (m.detector r l).run = .run := h.run_eq.trans hrun
  have hleft := hw.trans ((treatRun_run _ _ _ _ _ _ hm).trans (if_pos hhot))
  have hruns : (m.rd r).table.filter (isRunOf l) = [y] := h.runs.trans ((Reader.runs_keptTable _ _).trans hone)
  have hown := extendRun_own hruns hm (s.rd r).entered (peakRatio (s.detector r l).envelope ((s.detector r l).difference x))
  have hrecord : (m.detector r l).record = (s.detector r l).record := (congrArg Detector.record h.detector :)
  rw [← hleft, h.spanEnd_eq, h.active, hrecord] at hown
  obtain ⟨_, _, _, hy, _⟩ := runs_eq_singleton.mp hone
  exact h.grown hown hy hdeadline

theorem run_waits
    (hquiet : ((s.detector r l).hot (s.rd r).active ((t.rd r).lane l).stuck x && !(m.rd r).covered l (s.rd r).entered) = false) :
    if (s.detector r l).quiet + 1 ≤ (s.rd r).active.mergeGap then
      t.detector r l = (s.detector r l).taken (s.rd r).active ((t.rd r).lane l).stuck x .run ((s.detector r l).quiet + 1)
        (s.detector r l).record ∧ y ∈ (t.rd r).table
    else
      t.detector r l = (s.detector r l).taken (s.rd r).active ((t.rd r).lane l).stuck x .idle 0 none ∧
        ∀ z ∈ (t.rd r).table, isRunOf l z = false := by
  obtain ⟨twinOpens, hw⟩ := h.treated
  have hm : (m.detector r l).run = .run := h.run_eq.trans hrun
  have hleft := hw.trans ((treatRun_run _ _ _ _ _ _ hm).trans (if_neg (Bool.eq_false_iff.mp hquiet)))
  have hruns : (m.rd r).table.filter (isRunOf l) = [y] := h.runs.trans ((Reader.runs_keptTable _ _).trans hone)
  have hown := quietSample_run hruns hm
  have hcount : (m.detector r l).quiet = (s.detector r l).quiet := (congrArg Detector.quiet h.detector :)
  rw [← hleft, h.active, hcount] at hown
  split
  next hgap =>
    rw [if_pos hgap] at hown
    obtain ⟨hdetector, hstands⟩ := hown
    obtain ⟨htaken, haside⟩ := h.stands (record := (s.detector r l).record) (state := .run) (by
      rw [hstands]
      exact fun z hz => List.mem_singleton.mp hz ▸ hdeadline) (by rw [hdetector, h.detector, ← hrun]; rfl)
    obtain ⟨_, _, _, hy, _⟩ := runs_eq_singleton.mp hone
    refine ⟨htaken, (haside.mem_run hy).mpr (List.mem_of_mem_filter (p := isRunOf l) ?_)⟩
    rw [hstands]
    exact List.mem_cons_self
  next hgap =>
    rw [if_neg hgap] at hown
    obtain ⟨hdetector, hstands⟩ := hown
    obtain ⟨htaken, haside⟩ := h.stands_of_no_run hstands hdetector
    exact ⟨htaken, runs_eq_nil.mp (haside.runs.trans hstands)⟩

end

end LaneSampled

end

end Sys2Proof.Machine
end

section
/-! What a sample finds and does on its lane: the obligations of the click detector. -/

namespace Sys2Proof.Machine

/-- The sample finds a hot one that no entry covers. -/
theorem hot_uncovered_iff {hot covered : Bool} : (hot && !covered) = true ↔ hot = true ∧ ¬ covered = true := by
  cases hot <;> cases covered <;> decide

theorem quiet_or_covered_iff {hot covered : Bool} : (hot && !covered) = false ↔ ¬ hot = true ∨ covered = true := by
  cases hot <;> cases covered <;> decide

theorem ite_imp_ite {c : Prop} [Decidable c] {p q p' q' : Prop} (h : if c then p else q) (hp : p → p') (hq : q → q') :
    if c then p' else q' := by
  split
  next hc => exact hp (by rwa [if_pos hc] at h)
  next hc => exact hq (by rwa [if_neg hc] at h)

/-- Settles O35: the sample is followed to its lane's detector, in which it opens nothing, saturates the lane or opens a run. -/
theorem hotSampleOpensRunOrSaturates : Obligations.HotSampleOpensRunOrSaturates := by
  unfold Obligations.HotSampleOpensRunOrSaturates
  intro r x0 x1 l first s hstate hclock hreleases henabled hguard hhistory hidle hnoruns hfirst
  obtain ⟨m, w, t, ht, h⟩ := exec_lane_sample x0 x1 hclock hstate hreleases henabled hhistory hfirst
  refine ⟨t, ht, ?_⟩
  intro rd d new e x judged mag hot ratio kept covered
  have hx : x = laneSample l x0 x1 := by cases l <;> rfl
  rw [← hx] at h
  have hnone : (s.rd r).table.filter (isRunOf l) = [] := runs_eq_nil.mpr hnoruns
  have hhot : d.hot rd.active ((t.rd r).lane l).stuck x = true ↔ hot := d.hot_iff rd.active _ x
  have hcovered : (m.rd r).covered l e = true ↔ covered := by
    refine h.covered.trans (exists_congr fun y => and_congr_right fun hy => and_iff_right ?_)
    exact hnoruns y (List.mem_of_mem_filter hy)
  have htaken : ∀ {state quiet record} {rest : Prop}, new = d.taken rd.active ((t.rd r).lane l).stuck x state quiet record → rest →
      new.prev1 = x ∧ new.prev2 = d.prev1 ∧ new.history = d.history ∧
        new.envelope = (if judged ∧ ¬ hot then max 16 ((d.envelope : Int) + ((mag : Int) - d.envelope) / 2 ^ rd.active.envelopeRate).toNat
          else d.envelope) ∧ rest := by
    intro state quiet record rest hnew hrest
    rw [hnew]
    refine ⟨rfl, rfl, rfl, (Detector.envelopeBehind_of_not_catchup (by rw [show d.run = _ from hidle]; decide) _ _ _).trans ?_, hrest⟩
    refine if_congr (and_congr_right fun _ => ?_) rfl rfl
    rw [← hhot, Bool.not_eq_true]
  cases hfinds : d.hot rd.active ((t.rd r).lane l).stuck x && !(m.rd r).covered l e with
  | false =>
    have hquiet := h.idle_quiet hidle hnone hfinds
    rw [quiet_or_covered_iff, hhot, hcovered] at hfinds
    refine htaken hquiet ⟨fun _ => ?_, fun hfound hbare => ?_, fun hfound hbare => ?_⟩
    · rw [show new = _ from hquiet]
      exact ⟨rfl, rfl, rfl⟩
    · exact (hfinds.elim (· hfound) hbare).elim
    · exact (hfinds.elim (· hfound) hbare).elim
  | true =>
    have hopens := fun hroom => h.idle_opens hidle hnone hfinds hguard hroom rfl
    have hfulls := h.idle_full hidle hnone hfinds
    rw [hot_uncovered_iff, hhot, hcovered] at hfinds
    obtain ⟨hfound, hbare⟩ := hfinds
    have hgrows : kept.length ≤ (m.rd r).table.length := h.keeps.grows
    have hnot : ¬ (¬ hot ∨ covered) := fun hno => hno.elim (· hfound) hbare
    by_cases hroom : (m.rd r).table.length < 32
    · obtain ⟨state, quiet, record, hnew⟩ : ∃ state quiet record, new = d.taken rd.active ((t.rd r).lane l).stuck x state quiet record := by
        have hopened := hopens hroom
        split at hopened
        · exact ⟨_, _, _, hopened.1⟩
        · exact ⟨_, _, _, hopened.1⟩
      refine htaken hnew ⟨fun hno => absurd hno hnot, fun _ _ hfull => absurd (hfull.trans hgrows) (Nat.not_le.mpr hroom), fun _ _ _ => ?_⟩
      refine ite_imp_ite (hopens hroom) (fun ⟨hnew, hentry⟩ => ?_) fun ⟨hnew, z, hz, hcommits⟩ => ?_
      · rw [show new = _ from hnew]
        exact ⟨rfl, rfl, rfl, hentry⟩
      · rw [show new = _ from hnew]
        exact ⟨rfl, rfl, rfl, z, hz, hcommits.lanes, hcommits.kind, hcommits.state, hcommits.spanStart, hcommits.spanEnd, hcommits.peak⟩
    · obtain ⟨hnew, hcounted, htells⟩ := hfulls (Nat.not_lt.mp hroom)
      refine htaken hnew ⟨fun hno => absurd hno hnot, fun _ _ _ => ?_, fun _ _ hplace => absurd ?_ hroom⟩
      · rw [show new = _ from hnew]
        exact ⟨rfl, rfl, hcounted, htells⟩
      · rcases hplace with hplace | ⟨hown, hplace⟩
        · exact h.keeps.room.trans_lt hplace
        · exact (h.firstTaken hown).trans_lt hplace

/-- Settles O36: the sample is followed to its lane's detector, run state by run state. -/
theorem sampleActsOnRunState : Obligations.SampleActsOnRunState := by
  unfold Obligations.SampleActsOnRunState
  intro r x0 x1 l first s hstate hclock hreleases henabled hhistory hfirst
  obtain ⟨m, w, t, ht, h⟩ := exec_lane_sample x0 x1 hclock hstate hreleases henabled hhistory hfirst
  refine ⟨t, ht, ?_⟩
  intro rd d new e x judged mag hot ratio kept covered moved
  have hx : x = laneSample l x0 x1 := by cases l <;> rfl
  rw [← hx] at h
  have hhot : d.hot rd.active ((t.rd r).lane l).stuck x = true ↔ hot := d.hot_iff rd.active _ x
  have hcovered : (m.rd r).covered l e = true ↔ covered := h.covered
  have hfound : (d.hot rd.active ((t.rd r).lane l).stuck x && !(m.rd r).covered l e) = true ↔ hot ∧ ¬ covered := by
    rw [hot_uncovered_iff, hhot, hcovered]
  have hleft : ¬ hot ∨ covered → (d.hot rd.active ((t.rd r).lane l).stuck x && !(m.rd r).covered l e) = false := by
    rw [quiet_or_covered_iff, hhot, hcovered]
    exact id
  have hmoves : d.run ≠ .catchup → d.envelopeBehind rd.active ((t.rd r).lane l).stuck x = if judged ∧ ¬ hot then moved else d.envelope := by
    intro hrun
    refine (Detector.envelopeBehind_of_not_catchup hrun _ _ _).trans (if_congr (and_congr_right fun _ => ?_) rfl rfl)
    rw [← hhot, Bool.not_eq_true]
  refine ⟨fun hrun hnoruns => ?_, fun hrun hnoruns => ?_, fun y rec hrun hrecord hcount hmem hy hdeadline => ?_⟩
  · have hnew : new = _ := h.catchup (runs_eq_nil.mpr hnoruns) hrun
    have henvelope : new.envelope = d.envelopeBehind rd.active ((t.rd r).lane l).stuck x := by
      rw [hnew]
      split <;> rfl
    refine ⟨henvelope.trans (Detector.envelopeBehind_of_catchup hrun _ _ _), fun hyes => ?_, fun hno => ?_⟩
    · exact congrArg Detector.run (hnew.trans (if_pos (hhot.mpr hyes)))
    · rw [show new = _ from hnew.trans (if_neg (mt hhot.mp hno))]
      exact ⟨rfl, rfl, rfl⟩
  · have hnew : new = _ := h.saturated (runs_eq_nil.mpr hnoruns) hrun
    have henvelope : new.envelope = d.envelopeBehind rd.active ((t.rd r).lane l).stuck x := by
      rw [hnew]
      split
      · rfl
      · split <;> rfl
    refine ⟨henvelope.trans (hmoves (by rw [hrun]; decide)), fun hyes hbare => ?_, fun hquiet => ?_⟩
    · rw [show new = _ from hnew.trans (if_pos (hfound.mpr ⟨hyes, hbare⟩))]
      exact ⟨rfl, rfl⟩
    · have hwaits : new = _ := hnew.trans (if_neg (Bool.eq_false_iff.mp (hleft hquiet)))
      split
      next hgap =>
        rw [show new = _ from hwaits.trans (if_pos hgap)]
        exact ⟨rfl, rfl⟩
      next hgap =>
        rw [show new = _ from hwaits.trans (if_neg hgap)]
        exact ⟨rfl, rfl⟩
  · have hone : rd.table.filter (isRunOf l) = [y] := by
      rw [List.countP_eq_length_filter] at hcount
      obtain ⟨z, hz⟩ := List.length_eq_one_iff.mp hcount
      have hyz : y ∈ rd.table.filter (isRunOf l) := List.mem_filter.mpr ⟨hmem, hy⟩
      rw [hz] at hyz
      rw [hz, List.mem_singleton.mp hyz]
    have hextends := h.run_extends hrun hone hdeadline
    have hwaits := h.run_waits hrun hone hdeadline
    rw [show (s.detector r l).record = some rec from hrecord] at hextends hwaits
    have henvelope : ∀ {state quiet record}, new = d.taken rd.active ((t.rd r).lane l).stuck x state quiet record →
        new.envelope = if judged ∧ ¬ hot then moved else d.envelope := fun hnew =>
      (congrArg Detector.envelope hnew).trans (hmoves (by rw [hrun]; decide))
    refine ⟨?_, fun hyes hbare => ?_, fun hquiet => ?_⟩
    · cases hfinds : d.hot rd.active ((t.rd r).lane l).stuck x && !(m.rd r).covered l e with
      | true =>
        have hgrown := hextends hfinds
        dsimp only at hgrown
        split at hgrown <;> exact henvelope hgrown.1
      | false =>
        have hleft := hwaits hfinds
        split at hleft <;> exact henvelope hleft.1
    · refine ite_imp_ite (hextends (hfound.mpr ⟨hyes, hbare⟩)) (fun ⟨hnew, hentry⟩ => ?_) fun ⟨hnew, z, hz, hcommits⟩ => ?_
      · rw [show new = _ from hnew]
        exact ⟨rfl, rfl, rfl, hentry⟩
      · obtain ⟨hkind, _, hlanes⟩ := isRunOf_iff.mp hy
        rw [show new = _ from hnew]
        exact ⟨rfl, rfl, rfl, z, hz, hcommits.lanes.trans hlanes, hcommits.kind.trans hkind, hcommits.state, hcommits.spanStart,
          hcommits.spanEnd, hcommits.peak⟩
    · refine ite_imp_ite (hwaits (hleft hquiet)) (fun ⟨hnew, hentry⟩ => ?_) fun ⟨hnew, hends⟩ => ?_
      · rw [show new = _ from hnew]
        exact ⟨rfl, rfl, rfl, hentry⟩
      · rw [show new = _ from hnew]
        exact ⟨rfl, rfl, rfl, hends⟩

end Sys2Proof.Machine
end
